-- ==== Sys2Proof/Word.lean ====
section
/-!
DEFINITION. The word types of the block (spec/00_scope.md sections 5 to 7).
-/

namespace Sys2Proof

/-- A 32-bit unsigned value with arithmetic modulo 2^32: tick and second counts, deadlines, delays, handles, the
counter and the compare register (R3, D2). -/
abbrev U32 := BitVec 32

/-- An opaque reference: a handler, a param or a context (R7). The spec gives it REF_W bits, and REF_W is a
parameter, so it is a number, kept below 2^REF_W by the command port (`Transaction.onWires`) and by
`Instr.wf`. The block tests only whether a handler is 0 and never computes with a reference. -/
abbrev Ref := Nat

end Sys2Proof
end

