-- ==== Sys2Proof/Syntax.lean ====
section
/-!
DEFINITION. The syntax: one transaction of the command port (R80) and the instructions, one constructor for each row of
spec/opcode_table.json.
-/

namespace Sys2Proof

/-- What the HOST drives on the command port in one transaction (R80): the command word and the operands A to D. -/
structure Transaction where
  /-- `CW`, 32 bits: OP in bits 3:0, RSV in bits 31:4 (R81). -/
  cw : U32
  /-- Operand A, 32 bits: a delay or a handle. -/
  a : U32
  /-- Operand B, REF_W bits: a handler. -/
  b : Ref
  /-- Operand C, REF_W bits: a param. -/
  c : Ref
  /-- Operand D, REF_W bits: a context. -/
  d : Ref
deriving DecidableEq, Repr, Inhabited

/-- Every operation of the block: the eight commands (R83), the reserved words (R84), and the steps of the sequencer,
which have no command encoding (R89). -/
inductive Instr where
  /-- INIT, OP 0x1: its step I1 (R183). -/
  | init
  /-- REGISTER, OP 0x2 (R140). -/
  | register (delayTicks : U32) (handler param context : Ref)
  /-- CANCEL, OP 0x3 (R143). -/
  | cancel (handle : U32)
  /-- READ_TICKS, OP 0x4 (R121). -/
  | readTicks
  /-- READ_SECONDS, OP 0x5 (R122). -/
  | readSeconds
  /-- READ_SNAPSHOT, OP 0x6 (R123). -/
  | readSnapshot
  /-- READ_RAW, OP 0x7 (R124). -/
  | readRaw
  /-- CALLBACK_DONE, OP 0x8 (R164). -/
  | callbackDone
  /-- T1, interrupt entry and status check (R100). -/
  | t1
  /-- T2, compute the next deadline (R101). -/
  | t2
  /-- T3, program the new compare value (R102). -/
  | t3
  /-- T4, drift check (R103). -/
  | t4
  /-- T4B, drift-corrected reprogram (R105). -/
  | t4b
  /-- T5, acknowledge (R106). -/
  | t5
  /-- T6, advance the clock (R120). -/
  | t6
  /-- I2, program the first deadline (R184). -/
  | i2
  /-- I3, clear a stale match and enable (R185). -/
  | i3
  /-- SCAN(i), 0 <= i < K: visit slot i (R160). -/
  | scan (i : Nat)
  /-- SCAN(K): end the scan and the tick sequence (R163). -/
  | scanK
  /-- Any illegal command word: OP 0x0, OP 0x9 to 0xF, or RSV not 0 (R84). -/
  | reserved (cw : U32)
deriving DecidableEq, Repr, Inhabited

end Sys2Proof
end

