-- ==== Sys2Proof/Config.lean ====
section
/-!
DEFINITION. What an implementation fixes (spec/00_scope.md section 5), the acts of the environment (R2, R240),
and the free values: what the spec leaves to the order of agents and to the IC's answer.
-/

namespace Sys2Proof

/-- The parameter DRIFT_COMPARE: which comparison the late test of T4 makes (R104, D8). -/
inductive DriftCompare where
  /-- `SIGNED_LE`, the default: late iff sdiff32(n, c) <= 0. -/
  | signedLE
  /-- `UNSIGNED_LT`, the variant: late iff n < c as unsigned numbers. -/
  | unsignedLT
deriving DecidableEq, Repr, Inhabited

/-- The implementation parameters of spec/00_scope.md section 5. A machine's configuration never changes; it stands
in `State.cfg` so that every statement over all states holds for every configuration (log 1). -/
structure Config where
  /-- `CLOCKHZ`, the native frequency of the free-running counter. -/
  clockHz : Nat
  /-- `HZ`, ticks per elapsed second. -/
  hz : Nat
  /-- `K` (`KERNEL_TIMERS`), the number of table slots. -/
  k : Nat
  /-- `REF_W`, the width in bits of handler, param and context. -/
  refW : Nat
  /-- `DRIFT_COMPARE`. -/
  drift : DriftCompare
  /-- `MATCH_ON_WRITE`: whether writing CMP equal to CNT sets M (R62). -/
  matchOnWrite : Bool
  /-- `SPURIOUS_IRQ`: whether a tick sequence may start with M = 0 (R100). -/
  spuriousIrq : Bool
  /-- `INIT_ACK`: whether INIT clears a stale M (R185). -/
  initAck : Bool
deriving DecidableEq, Repr, Inhabited

/-- TPI = floor(CLOCKHZ / HZ), ticks per interrupt (R5). -/
def Config.tpi (c : Config) : Nat := c.clockHz / c.hz

/-- The configurations R6 admits; any other has no model. -/
def Config.admitted (c : Config) : Bool :=
  decide (1 ≤ c.clockHz) && decide (1 ≤ c.hz) && decide (c.hz ≤ c.clockHz) && decide (c.tpi ≤ 2 ^ 31 - 1)
    && decide (1 ≤ c.k) && decide (c.k ≤ 2 ^ 32 - 1) && decide (1 ≤ c.refW)

/-- Configuration EX of spec/41_deadline_reprogrammer.md and spec/95_test_vectors.md: the spec's illustration, with
the switches as the spec decides them (D8, D9, D16, D17). DESIGN CHOICE, unsafe: `State.reset` uses it (log 1). -/
def Config.ex : Config where
  clockHz := 1000000
  hz := 100
  k := 4
  refW := 64
  drift := .signedLE
  matchOnWrite := false
  spuriousIrq := false
  initAck := true

/-- The fields of a slot that reset leaves unspecified (R38, ID8). -/
structure Stale where
  deadline : U32
  param : Ref
  context : Ref
deriving DecidableEq, Repr, Inhabited

/-- The values a reset leaves unspecified, each a draw of its full range (R38, R240, ID7 to ID9). -/
structure ResetDraws where
  cnt : U32
  cmp : U32
  m : Bool
  nextCmp : U32
  cntLatch : U32
  /-- The stale fields of slot 0, slot 1, and so on; a slot the list does not reach has zeros. -/
  stale : List Stale
deriving DecidableEq, Repr, Inhabited

/-- Every draw zero. DESIGN CHOICE, unsafe: `State.reset` uses it (logs 4, 5 and 6). -/
def ResetDraws.zero : ResetDraws where
  cnt := 0
  cmp := 0
  m := false
  nextCmp := 0
  cntLatch := 0
  stale := []

/-- One model step is one step of one agent (R2), or a reset applied from outside (R240). Which enabled agent steps
next is free (ID17): `State.sched` holds the turns already decided, `Config.freeTurn` gives the others (log 2). -/
inductive Turn where
  /-- The CLOCK's one step, advance (R32). -/
  | clock
  /-- The BLOCK takes the internal step its sequencer enables, T1 among them (R28, R100). -/
  | block
  /-- The BLOCK performs the command the HOST is presenting, if its state accepts one (R180). -/
  | command
  /-- The HOST presents a command at the port (R80). -/
  | present (tx : Transaction)
  /-- The IC settles its answer to INIT's registration request (R183). -/
  | icAnswer (accept : Bool)
  /-- Reset is applied, with the values it leaves unspecified (R240). -/
  | reset (draws : ResetDraws)
deriving DecidableEq, Repr, Inhabited

/-- FREE VALUE (log 2): the n-th turn that `State.sched` does not decide. The interleaving of enabled agent steps
is any value (R2, ID17). No body, so nothing can be proved of it. -/
opaque Config.freeTurn : Nat → Turn

/-- FREE VALUE (log 7): the IC's answer at INIT where no IC turn has settled it. The draw icAccept is any value
(R183, ID16). No body, so nothing can be proved of it. -/
opaque Config.freeIcAccept : Nat → Bool

end Sys2Proof
end

