-- ==== Sys2Proof/WellFormed.lean ====
section
/-!
DEFINITION. Well-formedness: which transactions fit the wires of the port (R80), which command words are legal (R83),
and which instructions a machine of a given configuration has.
-/

namespace Sys2Proof

/-- A legal command word, in R83's second form: every row's mask is 0xFFFFFFFF, so the whole word is the opcode, 1 to
8. The decoder reads the two fields of R81 instead (`wordIsLegal`). -/
def legalWord (cw : U32) : Bool := decide (1 ≤ cw.toNat) && decide (cw.toNat ≤ 8)

/-- The value fits the REF_W wires of a reference operand (R80). -/
def Config.fitsRef (c : Config) (r : Ref) : Bool := decide (r < 2 ^ c.refW)

/-- The operands B, C and D fit the port's wires (R80). -/
def Transaction.wf (c : Config) (tx : Transaction) : Bool := c.fitsRef tx.b && c.fitsRef tx.c && c.fitsRef tx.d

/-- Reference operands fit REF_W bits (R82), the scan index is below K (R28), and a reserved word is not a legal
one (R84). -/
def Instr.wf (c : Config) : Instr → Bool
  | .init => true
  | .register _ handler param context => c.fitsRef handler && c.fitsRef param && c.fitsRef context
  | .cancel _ => true
  | .readTicks => true
  | .readSeconds => true
  | .readSnapshot => true
  | .readRaw => true
  | .callbackDone => true
  | .t1 => true
  | .t2 => true
  | .t3 => true
  | .t4 => true
  | .t4b => true
  | .t5 => true
  | .t6 => true
  | .i2 => true
  | .i3 => true
  | .scan i => decide (i < c.k)
  | .scanK => true
  | .reserved cw => !legalWord cw

end Sys2Proof
end

