-- ==== Sys2Proof/Decode.lean ====
section
/-!
DEFINITION. The decoder of the command port and the encoder (spec/30_encoding.md). `decode` is total on any
transaction: an illegal command word decodes to `Instr.reserved`, whose meaning is the fault ILLEGAL_CMD (R84, R181).
Internal steps have no encoding (R89). `decodeBits` reads a transaction written as one number and refuses, by name, a
number of bits that is no transaction.
-/

namespace Sys2Proof

/-- `OP`, CW[3:0] (R81). -/
def cwOp (cw : U32) : BitVec 4 := cw.extractLsb' 0 4

/-- `RSV`, CW[31:4] (R81). -/
def cwRsv (cw : U32) : BitVec 28 := cw.extractLsb' 4 28

/-- The decode check of R181, negated: RSV is 0 and OP is neither 0x0 nor 0x9 or more. -/
def wordIsLegal (cw : U32) : Bool :=
  cwRsv cw == 0#28 && !(cwOp cw == 0#4) && decide ((cwOp cw).toNat < 9)

/-- R83's opcode map with R82's operand assembly; every other word is reserved (R84, R85). -/
def decode (tx : Transaction) : Instr :=
  if wordIsLegal tx.cw then
    match (cwOp tx.cw).toNat with
    | 1 => .init
    | 2 => .register tx.a tx.b tx.c tx.d
    | 3 => .cancel tx.a
    | 4 => .readTicks
    | 5 => .readSeconds
    | 6 => .readSnapshot
    | 7 => .readRaw
    | 8 => .callbackDone
    | _ => .reserved tx.cw
  else .reserved tx.cw

/-- The transaction of command word `cw` with every operand omitted, which assembles as 0 (R87). -/
def bareCommand (cw : U32) : Transaction := { cw := cw, a := 0, b := 0, c := 0, d := 0 }

/-- The transaction a command assembles to (R83, R87); none for an internal step (R89). -/
def encode : Instr → Option Transaction
  | .init => some (bareCommand 0x00000001#32)
  | .register delayTicks handler param context =>
    some { cw := 0x00000002#32, a := delayTicks, b := handler, c := param, d := context }
  | .cancel handle => some { cw := 0x00000003#32, a := handle, b := 0, c := 0, d := 0 }
  | .readTicks => some (bareCommand 0x00000004#32)
  | .readSeconds => some (bareCommand 0x00000005#32)
  | .readSnapshot => some (bareCommand 0x00000006#32)
  | .readRaw => some (bareCommand 0x00000007#32)
  | .callbackDone => some (bareCommand 0x00000008#32)
  | .t1 => none
  | .t2 => none
  | .t3 => none
  | .t4 => none
  | .t4b => none
  | .t5 => none
  | .t6 => none
  | .i2 => none
  | .i3 => none
  | .scan _ => none
  | .scanK => none
  | .reserved cw => some (bareCommand cw)

/-- The low REF_W bits of each reference operand: what the port's wires carry (R80, log 8). -/
def Transaction.onWires (refW : Nat) (tx : Transaction) : Transaction :=
  { tx with b := tx.b % 2 ^ refW, c := tx.c % 2 ^ refW, d := tx.d % 2 ^ refW }

/-- The number of bits of a whole transaction: CW and A of 32, B, C and D of REF_W (R80). -/
def transactionBits (refW : Nat) : Nat := 64 + 3 * refW

/-- A transaction from one number: CW in bits 31:0, A in bits 63:32, then B, C and D of REF_W bits each. The order of
the parts in the number is the model's (log 13). -/
def Transaction.ofBits (refW w : Nat) : Transaction where
  cw := BitVec.ofNat 32 w
  a := BitVec.ofNat 32 (w / 2 ^ 32)
  b := w / 2 ^ 64 % 2 ^ refW
  c := w / 2 ^ (64 + refW) % 2 ^ refW
  d := w / 2 ^ (64 + 2 * refW) % 2 ^ refW

/-- The number of a transaction, in the layout `Transaction.ofBits` reads (log 13). -/
def Transaction.toBits (refW : Nat) (tx : Transaction) : Nat :=
  tx.cw.toNat + 2 ^ 32 * (tx.a.toNat + 2 ^ 32 * (tx.b + 2 ^ refW * (tx.c + 2 ^ refW * tx.d)))

/-- Why a number of bits is no transaction of the port. Safe: the port has no such transaction. -/
inductive DecodeRefusal where
  /-- Fewer than 32 bits: there is no narrower access than a whole command word (R64, R69). -/
  | shorterThanCommandWord
  /-- More bits than CW, A, B, C and D have (R80). -/
  | longerThanTransaction
deriving DecidableEq, Repr

/-- The instruction in the low `nbits` bits of `w`, operand bits above them zero. -/
def decodeBits (refW nbits w : Nat) : Except DecodeRefusal Instr :=
  if nbits < 32 then .error .shorterThanCommandWord
  else if transactionBits refW < nbits then .error .longerThanTransaction
  else .ok (decode (Transaction.ofBits refW (w % 2 ^ nbits)))

/-- What the decoder reads from a row's word, at the REF_W of `State.reset`'s configuration (logs 1 and 13). -/
def decodeTableWord (nbits w : Nat) : Option Instr :=
  match decodeBits Config.ex.refW nbits w with
  | .ok i => some i
  | .error _ => none

end Sys2Proof
end

