-- ==== Sys2Proof/Machine/State.lean ====
section
/-!
DEFINITION. The state: every piece the spec's 10_state.md gives the machine, then what passes the ports, then the model's
own fields; the reasons a step can stop; and reset (R38, R240).
-/

namespace Sys2Proof.Machine

open Sys2Proof

/-- The sequencer's values, the program-counter analogue (R28). -/
inductive Seq where
  | idle
  | i2
  | i3
  | t2
  | t3
  | t4
  | t4b
  | t5
  | t6
  /-- SCAN(i), 0 <= i <= K: the scan is about to visit slot i; i = K means it is finished. -/
  | scan (i : Nat)
  /-- CB(i), 0 <= i < K: slot i fired; waiting for CALLBACK_DONE. -/
  | cb (i : Nat)
  | halted
deriving DecidableEq, Repr, Inhabited

/-- One entry of the kernel-timer table (R23); free iff its handler is 0. -/
structure Slot where
  handler : Ref
  deadline : U32
  param : Ref
  context : Ref
deriving DecidableEq, Repr, Inhabited

/-- A slot of zeros: free. -/
def Slot.zero : Slot := { handler := 0, deadline := 0, param := 0, context := 0 }

/-- The fault codes of R202. -/
inductive FaultCode where
  | irqRegister
  | spuriousIrq
  | nullHandler
  | badHandle
  | illegalCmd
  | badContext
deriving DecidableEq, Repr, Inhabited

/-- The severity of a Log event; the source names one (R142, D23). -/
inductive Severity where
  | panic
deriving DecidableEq, Repr, Inhabited

/-- The code of a Log event; the spec names one (R142, D23). -/
inductive LogCode where
  | tableFull
deriving DecidableEq, Repr, Inhabited

/-- The block's outputs to the HOST beside responses (R204). -/
inductive Event where
  /-- FIRE, with the handle and the three references (R162). -/
  | fire (handle : U32) (handler param context : Ref)
  /-- A log event (R142). -/
  | log (severity : Severity) (code : LogCode)
  /-- A fault event (R200). -/
  | fault (code : FaultCode)
deriving DecidableEq, Repr, Inhabited

/-- The response words of a performed command (R80). -/
inductive Response where
  /-- The command gives no response: RSP0 and RSP1 undriven (ID15). -/
  | undriven
  /-- RSP0 driven. -/
  | one (rsp0 : U32)
  /-- RSP0 and RSP1 driven. -/
  | two (rsp0 rsp1 : U32)
deriving DecidableEq, Repr, Inhabited

/-- Why the machine would stop with a fault: never. Every fault of the spec is a NEXT state, with FAULT written and seq
HALTED, in which the CLOCK runs on and from which reset leaves (R200, R201, log 10). No constructor: nothing raises
one. -/
inductive Fault
deriving DecidableEq, Repr

/-- Why a step has no meaning. -/
inductive Refusal where
  /-- The instruction has no meaning in this model. Raised by `exec`'s rejected arms, of which there is none. Safe. -/
  | notModelled (mnemonic : String)
  /-- The configuration is outside R6's bounds, so it has no model (R6, ID14). Raised by `step`. Safe: it proves nothing
  about such a machine. -/
  | configurationNotAdmitted
deriving DecidableEq, Repr

/-- The whole state. Fields `ticks` to `m` are the spec's (10_state.md section 1); `port`, `rsp` and `events` are what passes
the ports (R80, R204; log 8); `cfg`, `sched`, `icAnswer` and `fresh` are the model's own (logs 1, 2 and 7). -/
structure State where
  /-- The configuration, which no step changes. -/
  cfg : Config
  /-- Completed tick sequences (R20). -/
  ticks : U32
  /-- Elapsed seconds (R21). -/
  secs : U32
  /-- The kernel-timer table, K slots (R23). -/
  slots : List Slot
  /-- INITED (R26). -/
  inited : Bool
  /-- IE, the interrupt enable (R27). -/
  ie : Bool
  /-- The sequencer (R28). -/
  seq : Seq
  /-- The latch from T2 to T3 and T4 (R29). -/
  nextCmp : U32
  /-- The latch from T4 to T4B and from I1 to I2 (R29). -/
  cntLatch : U32
  /-- FAULT[5:0], sticky (R30). -/
  fault : BitVec 6
  /-- CNT, the CLOCK's counter (R32). -/
  cnt : U32
  /-- CMP, the CLOCK's compare register (R33). -/
  cmp : U32
  /-- M, the CLOCK's interrupt-status bit (R34). -/
  m : Bool
  /-- The transaction the HOST is presenting, held until the block accepts it (R180). -/
  port : Option Transaction
  /-- The response of the last performed command (R80). -/
  rsp : Response
  /-- The history of events, oldest first. -/
  events : List Event
  /-- The turns already decided, next first. -/
  sched : List Turn
  /-- The IC's answer, where an IC turn has settled it. -/
  icAnswer : Option Bool
  /-- How many free values have been taken. -/
  fresh : Nat
deriving DecidableEq, Repr

/-- Slot i after reset: free, its other fields the draw's (R38, ID8). -/
def Slot.atReset (refW : Nat) (stale : Stale) : Slot where
  handler := 0
  deadline := stale.deadline
  param := stale.param % 2 ^ refW
  context := stale.context % 2 ^ refW

/-- The table after reset: K free slots (R38). -/
def slotsAtReset (c : Config) (stale : List Stale) : List Slot :=
  (List.range c.k).map fun i => Slot.atReset c.refW (stale.getD i { deadline := 0, param := 0, context := 0 })

/-- The machine right after reset, for every configuration and every draw (R38, R240); nothing decided, nothing
presented, no output yet. -/
def State.resetOf (c : Config) (d : ResetDraws) : State where
  cfg := c
  ticks := 0
  secs := 0
  slots := slotsAtReset c d.stale
  inited := false
  ie := false
  seq := .idle
  nextCmp := d.nextCmp
  cntLatch := d.cntLatch
  fault := 0
  cnt := d.cnt
  cmp := d.cmp
  m := d.m
  port := none
  rsp := .undriven
  events := []
  sched := []
  icAnswer := none
  fresh := 0

/-- The machine right after reset. DESIGN CHOICE, unsafe: configuration EX (log 1) and every draw zero (logs 4 to 6);
statements about reset are made of `State.resetOf`. -/
def State.reset : State := State.resetOf Config.ex ResetDraws.zero

end Sys2Proof.Machine
end

