-- ==== Sys2Proof/Machine/Flags.lean ====
section
/-!
DEFINITION. The computed tests of the block, which has no condition codes (10_state.md section 4): the signed difference,
the late test, the second boundary, the deadline comparator, the CLOCK's match; and the STATUS word.
-/

namespace Sys2Proof.Machine

open Sys2Proof

/-- sdiff32(a, b): (a - b) mod 2^32 read as a two's-complement number (R4). -/
def sdiff32 (a b : U32) : Int := (a - b).toInt

/-- The late test of T4, `Late(n, c)` (R104). -/
def late (mode : DriftCompare) (n c : U32) : Bool :=
  match mode with
  | .signedLE => decide (sdiff32 n c ≤ 0)
  | .unsignedLT => decide (n.toNat < c.toNat)

/-- Whether a tick count is a multiple of HZ (R8, R120). -/
def onSecond (hz : Nat) (ticks : U32) : Bool := ticks.toNat % hz == 0

/-- A slot is occupied iff its handler is not 0 (R23). -/
def Slot.occupied (slot : Slot) : Bool := !(slot.handler == 0)

/-- The deadline comparator: occupied, with a deadline at or before `t` in the signed difference (R161). -/
def Slot.due (slot : Slot) (t : U32) : Bool := slot.occupied && decide (sdiff32 slot.deadline t ≤ 0)

/-- The STATUS field BUSY (R31). -/
def Seq.busy : Seq → Bool
  | .idle => false
  | .i2 => true
  | .i3 => true
  | .t2 => true
  | .t3 => true
  | .t4 => true
  | .t4b => true
  | .t5 => true
  | .t6 => true
  | .scan _ => true
  | .cb _ => false
  | .halted => false

/-- The STATUS field INCB (R31): callback context (R208). -/
def Seq.inCallback : Seq → Bool
  | .cb _ => true
  | _ => false

/-- The STATUS field HALTED (R31). -/
def Seq.isHalted : Seq → Bool
  | .halted => true
  | _ => false

/-- The STATUS output word (R31): bits 31:14 and 7:5 reserved 0, 13:8 FAULT, 4 HALTED, 3 INCB, 2 BUSY, 1 IE, 0 INITED. -/
def State.status (s : State) : U32 :=
  0#18 ++ s.fault ++ 0#3 ++ BitVec.ofBool s.seq.isHalted ++ BitVec.ofBool s.seq.inCallback ++ BitVec.ofBool s.seq.busy
    ++ BitVec.ofBool s.ie ++ BitVec.ofBool s.inited

end Sys2Proof.Machine
end

