-- ==== Sys2Proof/Machine/Operands.lean ====
section
/-!
DEFINITION. The operands of the commands and steps: TPI, handles, slot access by index and the first-free search.
-/

namespace Sys2Proof.Machine

open Sys2Proof

/-- TPI as the 32-bit operand of T2, T4B and I2 (R5, R101). -/
def State.tpi (s : State) : U32 := BitVec.ofNat 32 s.cfg.tpi

/-- The handle of slot[i] is i + 1 (R25). -/
def handleOfSlot (i : Nat) : U32 := BitVec.ofNat 32 (i + 1)

/-- The slot index a handle names (R143). -/
def slotOfHandle (handle : U32) : Nat := handle.toNat - 1

/-- CheckHandle passes: 1 <= handle <= K (R144). -/
def State.handleInRange (s : State) (handle : U32) : Bool :=
  decide (1 ≤ handle.toNat) && decide (handle.toNat ≤ s.cfg.k)

/-- slot[i] (R23); outside the table, where no step looks, a free slot. -/
def State.slotAt (s : State) (i : Nat) : Slot := s.slots.getD i Slot.zero

/-- The least index, counted from `i`, of a free slot (R141). -/
def firstFreeFrom (i : Nat) : List Slot → Option Nat
  | [] => none
  | slot :: rest => if slot.handler == 0 then some i else firstFreeFrom (i + 1) rest

/-- FirstFree() (R141): the least index of a free slot, none if the table is full. -/
def State.firstFree (s : State) : Option Nat := firstFreeFrom 0 s.slots

/-- Due(i, ticks) (R161). -/
def State.dueNow (s : State) (i : Nat) : Bool := (s.slotAt i).due s.ticks

end Sys2Proof.Machine
end

