-- ==== Sys2Proof/Machine/Ops.lean ====
section
/-!
DEFINITION. The operations the meanings share: the clock-interface primitives (20_memory.md), the outputs, slot writes,
raising a fault, entering and leaving the tick sequence and a callback, and how a command or a sequencer step is taken.
-/

namespace Sys2Proof.Machine

open Sys2Proof

/-! ## The clock interface (R60 to R63) -/

/-- The clock-interface registers that MemRead names; symbolic, with no addresses (R60, R74). -/
inductive ClkReg where
  /-- `CLK_CNT`. -/
  | clkCnt
  /-- `CLK_CMP`. -/
  | clkCmp
deriving DecidableEq, Repr

/-- `MemRead(reg, 4)`: the register's value, with no side effect (R61, R62). -/
def State.memRead (s : State) : ClkReg → U32
  | .clkCnt => s.cnt
  | .clkCmp => s.cmp

/-- `MemWrite(CLK_CMP, 4, v)`: CMP <- v, and M <- 1 if MATCH_ON_WRITE holds and v = CNT (R62). CLK_CNT is never
written (R60). -/
def State.memWriteCmp (s : State) (v : U32) : State :=
  { s with cmp := v, m := s.m || (s.cfg.matchOnWrite && v == s.cnt) }

/-- `ReadStatus()`: M (R63). -/
def State.readStatus (s : State) : Bool := s.m

/-- `AckStatus()`: M <- 0 (R63). -/
def State.ackStatus (s : State) : State := { s with m := false }

/-! ## Sequencer, outputs and slots -/

/-- `seq <- q` (00_scope.md section 6). -/
def State.goto (s : State) (q : Seq) : State := { s with seq := q }

/-- `emit e`: append to the HOST's event history (00_scope.md section 6). -/
def State.emit (s : State) (e : Event) : State := { s with events := s.events ++ [e] }

/-- `respond(...)`: the response words of the command being performed (R80). -/
def State.respond (s : State) (r : Response) : State := { s with rsp := r }

/-- Write all four fields of slot[i] (R140). -/
def State.setSlot (s : State) (i : Nat) (slot : Slot) : State := { s with slots := s.slots.set i slot }

/-- Free slot[i]: clear its handler and nothing else (R37). -/
def State.freeSlot (s : State) (i : Nat) : State := s.setSlot i { s.slotAt i with handler := 0 }

/-- `nextCmp <- v` (R101). -/
def State.latchNextCmp (s : State) (v : U32) : State := { s with nextCmp := v }

/-- `cntLatch <- v` (R103, R183). -/
def State.latchCnt (s : State) (v : U32) : State := { s with cntLatch := v }

/-- `IE <- 1 ; INITED <- 1` (R185). -/
def State.enable (s : State) : State := { s with ie := true, inited := true }

/-! ## Faults, entry and return -/

/-- The number of a fault code (R202). -/
def FaultCode.number : FaultCode → Nat
  | .irqRegister => 1
  | .spuriousIrq => 2
  | .nullHandler => 3
  | .badHandle => 4
  | .illegalCmd => 5
  | .badContext => 6

/-- The FAULT register's bit of a code, bit `code - 1` (R202). -/
def FaultCode.bit (code : FaultCode) : BitVec 6 := BitVec.twoPow 6 (code.number - 1)

/-- `raise Fault(code)`: FAULT[code - 1] <- 1, seq <- HALTED, emit FaultEvent(code), and nothing else (R200). -/
def State.raiseFault (s : State) (code : FaultCode) : State :=
  { s with fault := s.fault ||| code.bit, seq := .halted, events := s.events ++ [.fault code] }

/-- Entry to the tick sequence: it saves nothing and changes no mask (R206). -/
def State.enterTick (s : State) : State := s.goto .t2

/-- Return from the tick sequence: nothing is restored (R207). -/
def State.leaveTick (s : State) : State := s.goto .idle

/-- `Fire(i)`: free slot i, emit FIRE with what it held, and wait in CB(i) (R162). Entry to a HOST callback (R206). -/
def State.fire (s : State) (i : Nat) : State :=
  ((s.freeSlot i).emit
    (.fire (handleOfSlot i) (s.slotAt i).handler (s.slotAt i).param (s.slotAt i).context)).goto (.cb i)

/-- Return from the callback of slot i: the scan goes on with the next slot (R164, R207). -/
def State.leaveCallback (s : State) (i : Nat) : State := s.goto (.scan (i + 1))

/-! ## How commands and sequencer steps are taken -/

/-- The states that accept a HOST command: IDLE and CB(i) (R35). -/
def Seq.accepts : Seq → Bool
  | .idle => true
  | .cb _ => true
  | _ => false

/-- The transaction leaves the port, and its response is undriven unless the command responds (R80). -/
def State.beginCommand (s : State) : State := { s with port := none, rsp := .undriven }

/-- Take a command (R180): in an accepting state it is performed in one step (R66); in any other state it is held and nothing
changes. -/
def takeCommand (s : State) (perform : State → State) : Host.Outcome State Fault Refusal :=
  .next (if s.seq.accepts then perform s.beginCommand else s)

/-- Take a sequencer step: where it is enabled (R28) it acts; elsewhere the block takes no such step and nothing
changes (log 3). -/
def takeInternal (enabled : Bool) (s : State) (act : State → State) : Host.Outcome State Fault Refusal :=
  .next (if enabled then act s else s)

/-- The draw icAccept of INIT (R183): the IC's settled answer, or a free value (log 7). -/
def State.icAccept (s : State) : Bool := s.icAnswer.getD (Config.freeIcAccept s.fresh)

/-- The state after the draw: the answer is used up, and a free value taken is counted. -/
def State.dropIcAnswer (s : State) : State :=
  { s with icAnswer := none, fresh := if s.icAnswer.isSome then s.fresh else s.fresh + 1 }

end Sys2Proof.Machine
end

