-- ==== Sys2Proof/Machine/Control.lean ====
section
/-!
DEFINITION. Reserved words, INIT and its steps I2 and I3 (spec/45_control.md).
-/

namespace Sys2Proof.Machine

open Sys2Proof

/-- INIT's step I1 after the context check: the IC's answer, then the counter read (R183). -/
def State.initI1 (s : State) : State :=
  if s.icAccept then (s.dropIcAnswer.latchCnt (s.memRead .clkCnt)).goto .i2
  else s.dropIcAnswer.raiseFault .irqRegister

/-- INIT: allowed only in IDLE with INITED = 0 (R182), then I1 (R183). -/
def execInit (s : State) : Host.Outcome State Fault Refusal :=
  takeCommand s fun s => if s.seq == .idle && !s.inited then s.initI1 else s.raiseFault .badContext

/-- I2, program the first deadline: CMP <- cntLatch + TPI (R184). -/
def execI2 (s : State) : Host.Outcome State Fault Refusal :=
  takeInternal (s.seq == .i2) s fun s => (s.memWriteCmp (s.cntLatch + s.tpi)).goto .i3

/-- I3, clear a stale match if INIT_ACK holds, and enable (R185). -/
def execI3 (s : State) : Host.Outcome State Fault Refusal :=
  takeInternal (s.seq == .i3) s fun s =>
    (if s.cfg.initAck then s.ackStatus else s).enable.goto .idle

/-- An illegal command word faults before anything else (R84, R181). The word itself is not recorded (R202). -/
def execReserved (_cw : U32) (s : State) : Host.Outcome State Fault Refusal :=
  takeCommand s fun s => s.raiseFault .illegalCmd

end Sys2Proof.Machine
end

