-- ==== Sys2Proof/Machine/Drp.lean ====
section
/-!
DEFINITION. The deadline re-programmer with drift correction: the steps T1 to T5 (spec/41_deadline_reprogrammer.md).
-/

namespace Sys2Proof.Machine

open Sys2Proof

/-- T1 is enabled in IDLE with IE = 1 and a match pending, or without one where SPURIOUS_IRQ lets the environment start
the sequence (R100). -/
def State.t1Enabled (s : State) : Bool := s.seq == .idle && s.ie && (s.readStatus || s.cfg.spuriousIrq)

/-- T1, interrupt entry and status check (R100). -/
def execT1 (s : State) : Host.Outcome State Fault Refusal :=
  takeInternal s.t1Enabled s fun s => if s.readStatus then s.enterTick else s.raiseFault .spuriousIrq

/-- T2, compute the next deadline: nextCmp <- CMP + TPI (R101). -/
def execT2 (s : State) : Host.Outcome State Fault Refusal :=
  takeInternal (s.seq == .t2) s fun s => (s.latchNextCmp (s.memRead .clkCmp + s.tpi)).goto .t3

/-- T3, program the new compare value: CMP <- nextCmp (R102). -/
def execT3 (s : State) : Host.Outcome State Fault Refusal :=
  takeInternal (s.seq == .t3) s fun s => (s.memWriteCmp s.nextCmp).goto .t4

/-- T4, drift check: latch CNT once and test nextCmp against it (R103). -/
def execT4 (s : State) : Host.Outcome State Fault Refusal :=
  takeInternal (s.seq == .t4) s fun s =>
    (s.latchCnt (s.memRead .clkCnt)).goto
      (if late s.cfg.drift s.nextCmp (s.memRead .clkCnt) then .t4b else .t5)

/-- T4B, drift-corrected reprogram: CMP <- cntLatch + TPI (R105). -/
def execT4b (s : State) : Host.Outcome State Fault Refusal :=
  takeInternal (s.seq == .t4b) s fun s => (s.memWriteCmp (s.cntLatch + s.tpi)).goto .t5

/-- T5, acknowledge: M <- 0 (R106). -/
def execT5 (s : State) : Host.Outcome State Fault Refusal :=
  takeInternal (s.seq == .t5) s fun s => s.ackStatus.goto .t6

end Sys2Proof.Machine
end

