-- ==== Sys2Proof/Machine/Ktt.lean ====
section
/-!
DEFINITION. The kernel-timer table: REGISTER and CANCEL (spec/43_timer_table.md), the scan's steps and CALLBACK_DONE
(spec/44_poll_scanner.md).
-/

namespace Sys2Proof.Machine

open Sys2Proof

/-- REGISTER after the null-handler check: fill the first free slot and answer its handle, or report exhaustion and
answer handle 0 (R140 to R142). -/
def State.registerTimer (s : State) (delayTicks : U32) (handler param context : Ref) : State :=
  match s.firstFree with
  | none => (s.emit (.log .panic .tableFull)).respond (.one 0)
  | some j =>
    (s.setSlot j { handler := handler, deadline := s.ticks + delayTicks, param := param, context := context }).respond
      (.one (handleOfSlot j))

/-- REGISTER (R140): the null-handler check comes before the search (R205). -/
def execRegister (delayTicks : U32) (handler param context : Ref) (s : State) : Host.Outcome State Fault Refusal :=
  takeCommand s fun s =>
    if handler == 0 then s.raiseFault .nullHandler else s.registerTimer delayTicks handler param context

/-- CANCEL (R143, R144). -/
def execCancel (handle : U32) (s : State) : Host.Outcome State Fault Refusal :=
  takeCommand s fun s =>
    if s.handleInRange handle then s.freeSlot (slotOfHandle handle) else s.raiseFault .badHandle

/-- SCAN(i), i < K: fire slot i if it is due, else go on (R160). -/
def execScan (i : Nat) (s : State) : Host.Outcome State Fault Refusal :=
  takeInternal (s.seq == .scan i && decide (i < s.cfg.k)) s fun s =>
    if s.dueNow i then s.fire i else s.goto (.scan (i + 1))

/-- SCAN(K) ends the scan and the tick sequence (R163). -/
def execScanK (s : State) : Host.Outcome State Fault Refusal :=
  takeInternal (s.seq == .scan s.cfg.k) s fun s => s.leaveTick

/-- CALLBACK_DONE: the return from a callback; a context fault outside CB(i) (R164, R182). -/
def execCallbackDone (s : State) : Host.Outcome State Fault Refusal :=
  takeCommand s fun s =>
    match s.seq with
    | .cb i => s.leaveCallback i
    | _ => s.raiseFault .badContext

end Sys2Proof.Machine
end

