-- ==== Sys2Proof/Machine/Tea.lean ====
section
/-!
DEFINITION. The tick and elapsed-second accumulator: T6 and the read commands (spec/42_tick_accumulator.md).
-/

namespace Sys2Proof.Machine

open Sys2Proof

/-- ticks <- ticks + 1, and secs <- secs + 1 if the new ticks is a multiple of HZ (R120). -/
def State.advanceClock (s : State) : State :=
  { s with ticks := s.ticks + 1, secs := if onSecond s.cfg.hz (s.ticks + 1) then s.secs + 1 else s.secs }

/-- T6, advance the clock (R120). -/
def execT6 (s : State) : Host.Outcome State Fault Refusal :=
  takeInternal (s.seq == .t6) s fun s => s.advanceClock.goto (.scan 0)

/-- READ_TICKS (R121). -/
def execReadTicks (s : State) : Host.Outcome State Fault Refusal :=
  takeCommand s fun s => s.respond (.one s.ticks)

/-- READ_SECONDS (R122). -/
def execReadSeconds (s : State) : Host.Outcome State Fault Refusal :=
  takeCommand s fun s => s.respond (.one s.secs)

/-- READ_SNAPSHOT: both counters from one state (R123). -/
def execReadSnapshot (s : State) : Host.Outcome State Fault Refusal :=
  takeCommand s fun s => s.respond (.two s.ticks s.secs)

/-- READ_RAW: the counter (R124). -/
def execReadRaw (s : State) : Host.Outcome State Fault Refusal :=
  takeCommand s fun s => s.respond (.one (s.memRead .clkCnt))

end Sys2Proof.Machine
end

