-- ==== Sys2Proof/Machine/Dispatch.lean ====
section
/-!
DEFINITION. One arm per instruction, each one call of its meaning.
-/

namespace Sys2Proof.Machine

open Sys2Proof

def exec (i : Instr) (s : State) : Host.Outcome State Fault Refusal :=
  match i with
  | .init => Sys2Proof.Machine.execInit s
  | .register delayTicks handler param context => Sys2Proof.Machine.execRegister delayTicks handler param context s
  | .cancel handle => Sys2Proof.Machine.execCancel handle s
  | .readTicks => Sys2Proof.Machine.execReadTicks s
  | .readSeconds => Sys2Proof.Machine.execReadSeconds s
  | .readSnapshot => Sys2Proof.Machine.execReadSnapshot s
  | .readRaw => Sys2Proof.Machine.execReadRaw s
  | .callbackDone => Sys2Proof.Machine.execCallbackDone s
  | .t1 => Sys2Proof.Machine.execT1 s
  | .t2 => Sys2Proof.Machine.execT2 s
  | .t3 => Sys2Proof.Machine.execT3 s
  | .t4 => Sys2Proof.Machine.execT4 s
  | .t4b => Sys2Proof.Machine.execT4b s
  | .t5 => Sys2Proof.Machine.execT5 s
  | .t6 => Sys2Proof.Machine.execT6 s
  | .i2 => Sys2Proof.Machine.execI2 s
  | .i3 => Sys2Proof.Machine.execI3 s
  | .scan index => Sys2Proof.Machine.execScan index s
  | .scanK => Sys2Proof.Machine.execScanK s
  | .reserved cw => Sys2Proof.Machine.execReserved cw s

end Sys2Proof.Machine
end

