-- ==== Sys2Proof/Machine/Sequencer.lean ====
section
/-!
DEFINITION. What each agent does in its turn (R2): the CLOCK's advance, the BLOCK's internal step or command, the HOST's
presenting, the IC's answer, and reset; and which turn comes next.
-/

namespace Sys2Proof.Machine

open Sys2Proof

/-- The internal step the sequencer's state enables, if any (R28, R100, R160, R163); HALTED and CB(i) enable none
(R107, R201). -/
def State.internalStep (s : State) : Option Instr :=
  match s.seq with
  | .idle => if s.t1Enabled then some .t1 else none
  | .i2 => some .i2
  | .i3 => some .i3
  | .t2 => some .t2
  | .t3 => some .t3
  | .t4 => some .t4
  | .t4b => some .t4b
  | .t5 => some .t5
  | .t6 => some .t6
  | .scan i => if i < s.cfg.k then some (.scan i) else if i = s.cfg.k then some .scanK else none
  | .cb _ => none
  | .halted => none

/-- The CLOCK's step: CNT <- CNT + 1, then M <- 1 if the new CNT equals CMP; M = 1 stays 1 (R32, R34). -/
def State.clockAdvance (s : State) : State := { s with cnt := s.cnt + 1, m := s.m || s.cnt + 1 == s.cmp }

/-- The HOST presents a command; while one is presented it presents no other (R180, R243). -/
def State.hostPresents (s : State) (tx : Transaction) : State :=
  { s with port := some (s.port.getD (tx.onWires s.cfg.refW)) }

/-- The IC settles its answer to the registration request (R183). -/
def State.icSettles (s : State) (accept : Bool) : State := { s with icAnswer := some accept }

/-- Reset in any state (R240): the spec's state as after reset, with the draws; what the HOST holds (the transaction it
presents, R180, and what it has received) and the model's own fields stay (log 9). -/
def State.applyReset (s : State) (d : ResetDraws) : State :=
  { State.resetOf s.cfg d with
    port := s.port, rsp := s.rsp, events := s.events, sched := s.sched, icAnswer := s.icAnswer, fresh := s.fresh }

/-- The turn that comes next: the first decided one, or a free value (R2, log 2). -/
def State.nextTurn (s : State) : Turn := s.sched.headD (Config.freeTurn s.fresh)

/-- The state once that turn is chosen; a free value taken is counted. -/
def State.dropTurn (s : State) : State :=
  { s with sched := s.sched.tail, fresh := if s.sched.isEmpty then s.fresh + 1 else s.fresh }

/-- One turn. A turn given to an agent with no enabled step changes nothing (log 3). -/
def takeTurn (t : Turn) (s : State) : Host.Outcome State Fault Refusal :=
  match t with
  | .clock => .next s.clockAdvance
  | .block =>
    match s.internalStep with
    | some i => exec i s
    | none => .next s
  | .command =>
    match s.port with
    | some tx => exec (decode tx) s
    | none => .next s
  | .present tx => .next (s.hostPresents tx)
  | .icAnswer accept => .next (s.icSettles accept)
  | .reset d => .next (s.applyReset d)

/-- Place the transaction of `w` on the port and make its performance the next turn (log 13). -/
def State.presentWord (s : State) (nbits w : Nat) : State :=
  { s with
    port := some (Transaction.ofBits s.cfg.refW (w % 2 ^ nbits))
    sched := .command :: s.sched }

end Sys2Proof.Machine
end

