-- ==== Sys2Proof/Machine/Step.lean ====
section
/-!
DEFINITION. The step: one turn of one agent (R2), for a configuration that R6 admits.
-/

namespace Sys2Proof.Machine

open Sys2Proof

/-- One step of one agent (R2). A configuration outside R6's bounds has no model (ID14). -/
def step (s : State) : Host.Outcome State Fault Refusal :=
  if s.cfg.admitted then takeTurn s.nextTurn s.dropTurn else .refused .configurationNotAdmitted

/-- `s` with the transaction of `w` presented and its performance the next turn (log 13). -/
def State.withFetchWord (s : State) (nbits w : Nat) : State := s.presentWord nbits w

end Sys2Proof.Machine
end

