-- ==== Sys2Proof/Safety.lean ====
section
/-!
DEFINITION. The terms claims use: the invariant of the states, what a safe run is, runs over chosen turns, counts along a
run, and the relation of states that differ only in what nothing can observe.
-/

namespace Sys2Proof.Machine

open Sys2Proof

/-- The sequencer values of a table of K slots: the scan index is at most K, the callback index below it (R28). -/
def Seq.legal (k : Nat) : Seq → Bool
  | .scan i => decide (i ≤ k)
  | .cb i => decide (i < k)
  | _ => true

/-- Inside a tick sequence, its scan and its callbacks included. -/
def Seq.inTick : Seq → Bool
  | .t2 => true
  | .t3 => true
  | .t4 => true
  | .t4b => true
  | .t5 => true
  | .t6 => true
  | .scan _ => true
  | .cb _ => true
  | _ => false

/-- Inside INIT, after I1. -/
def Seq.inInit : Seq → Bool
  | .i2 => true
  | .i3 => true
  | _ => false

/-- A slot's references fit REF_W bits (R23). -/
def Slot.fits (c : Config) (slot : Slot) : Bool :=
  c.fitsRef slot.handler && c.fitsRef slot.param && c.fitsRef slot.context

/-- What holds of the state of every machine the spec describes, after reset and after every step. -/
structure State.Inv (s : State) : Prop where
  /-- R6. -/
  admitted : s.cfg.admitted = true
  /-- R23: K slots. -/
  slots_length : s.slots.length = s.cfg.k
  /-- R23: references of REF_W bits. -/
  slots_fit : ∀ slot ∈ s.slots, slot.fits s.cfg = true
  /-- R80: operands of REF_W bits. -/
  port_fits : ∀ tx, s.port = some tx → tx.wf s.cfg = true
  /-- R28: the scan index never exceeds K. -/
  seq_legal : s.seq.legal s.cfg.k = true
  /-- I3 sets IE and INITED together and only reset clears them (R26, R27). -/
  ie_eq_inited : s.ie = s.inited
  /-- T1 needs IE, so a tick sequence runs only after INIT (R27, R100). -/
  inited_of_inTick : s.seq.inTick = true → s.inited = true
  /-- INIT is accepted only before INITED is set (R182). -/
  not_inited_of_inInit : s.seq.inInit = true → s.inited = false
  /-- A fault halts the block, and nothing else does (R200, R201). -/
  fault_iff_halted : s.fault = 0 ↔ s.seq ≠ .halted
  /-- At most one FAULT bit is ever set between resets (R30). -/
  fault_single : s.fault = 0 ∨ ∃ code : FaultCode, s.fault = code.bit

/-- What the drift correction keeps true (R108): at T4 the compare register holds nextCmp, and at T5 the compare is
ahead of the counter value T4 read. -/
structure State.DriftInv (s : State) : Prop where
  written : s.seq = .t4 → s.cmp = s.nextCmp
  ahead : s.seq = .t5 → 1 ≤ sdiff32 s.cmp s.cntLatch

/-- A safe state: the block is not halted. A halted state is never a final state of a run (R201). -/
def State.safe (s : State) : Bool := !s.seq.isHalted

/-- The state a faulting command leaves: its transaction used up, no response, the fault's bit, HALTED, and the event
(R200). -/
def faultedCommand (s : State) (bit : BitVec 6) (code : FaultCode) : State :=
  { s with port := none, rsp := .undriven, fault := s.fault ||| bit, seq := .halted, events := s.events ++ [.fault code] }

/-- The HOST's commands, the reserved words among them (R83, R84). -/
def isCommand : Instr → Bool
  | .init => true
  | .register _ _ _ _ => true
  | .cancel _ => true
  | .readTicks => true
  | .readSeconds => true
  | .readSnapshot => true
  | .readRaw => true
  | .callbackDone => true
  | .reserved _ => true
  | .t1 => false
  | .t2 => false
  | .t3 => false
  | .t4 => false
  | .t4b => false
  | .t5 => false
  | .t6 => false
  | .i2 => false
  | .i3 => false
  | .scan _ => false
  | .scanK => false

/-- Whether a turn is a reset. -/
def turnIsReset : Turn → Bool
  | .reset _ => true
  | _ => false

/-- Whether a turn is the CLOCK's. -/
def turnIsClock : Turn → Bool
  | .clock => true
  | _ => false

/-- The run over exactly the turns `ts`. -/
def runTurns (ts : List Turn) (s : State) : Host.Outcome State Fault Refusal :=
  Host.Core.run Sys2Proof.core ts.length { s with sched := ts }

/-- The number of T6 steps since reset, brought up to date over the next step of `s` (R22). -/
def countT6 (s : State) (n : Nat) : Nat :=
  match s.nextTurn with
  | .reset _ => 0
  | .block => if s.seq = .t6 then n + 1 else n
  | _ => n

/-- The time counters stand for `n` steps T6 since reset: ticks is n modulo 2^32, and secs is floor(n / HZ) while ticks has
not wrapped (R22). -/
structure State.CountsT6 (s : State) (n : Nat) : Prop where
  ticks_eq : s.ticks = BitVec.ofNat 32 n
  secs_eq : n ≤ 2 ^ 32 - 1 → s.secs.toNat = n / s.cfg.hz

/-- The number of T6 steps since reset after `k` steps from `s`, where it is `n` at `s` (R22, R125). -/
def t6SinceReset : Nat → State → Nat → Nat
  | 0, _, n => n
  | k + 1, s, n =>
    match step s with
    | .next t => t6SinceReset k t (countT6 s n)
    | .fault _ => n
    | .refused _ => n

/-- Perform instructions in order, with the response after each. -/
def performAll : List Instr → State → Option (State × List Response)
  | [], s => some (s, [])
  | i :: is, s =>
    match exec i s with
    | .next t => (performAll is t).map fun r => (r.1, t.rsp :: r.2)
    | .fault _ => none
    | .refused _ => none

/-- The turns of a scan from slot `i` on, `n` slots to go, in which the HOST answers every FIRE at once with
CALLBACK_DONE (R164, R243), and SCAN(K) at the end. -/
def scanTurns (s : State) : Nat → Nat → List Turn
  | _, 0 => [.block]
  | i, n + 1 =>
    (if s.dueNow i then [.block, .present (bareCommand 0x00000008#32), .command] else [.block]) ++ scanTurns s (i + 1) n

/-- The FIRE events of the slots due in `s`, from slot `i` on, in increasing index (R162, R168). -/
def fireEvents (s : State) : Nat → Nat → List Event
  | _, 0 => []
  | i, n + 1 =>
    (if s.dueNow i then
      [.fire (handleOfSlot i) (s.slotAt i).handler (s.slotAt i).param (s.slotAt i).context] else [])
      ++ fireEvents s (i + 1) n

/-- The same slot as far as anything can observe: the same handler, and the same other fields while occupied (R37). -/
def Slot.sameLive (a b : Slot) : Prop := a.handler = b.handler ∧ (a.occupied = true → a = b)

/-- The same state but for the stale fields of free slots, which nothing can observe (R37). -/
structure State.SameButStale (s t : State) : Prop where
  slots_length : s.slots.length = t.slots.length
  slots_same : ∀ i, (s.slotAt i).sameLive (t.slotAt i)
  rest_same : { s with slots := [] } = { t with slots := [] }

end Sys2Proof.Machine
end

