-- ==== Sys2Proof/Certificates/Slice0/Obligations.lean ====
section
/-!
DEFINITION. The statements for the provers. Every state of a statement carries its configuration, so a statement over all
states holds for every configuration (log 1) and, its schedule being any list of turns, for every order of agents (log 2).
-/

open Sys2Proof Sys2Proof.Machine

/-! ## Encoding -/

/-- A well-formed command, reserved words included, put on the wires as one number and decoded again, is itself, at every
operand value and every REF_W (R82, R83, R84, R87). The order of the parts in the number is the model's (log 13). -/
def Obligations.DecodeOfEncodedBitsIsInstruction : Prop :=
  ∀ (c : Config) (i : Instr) (tx : Transaction), i.wf c = true → encode i = some tx →
    decodeBits c.refW (transactionBits c.refW) (tx.toBits c.refW) = .ok i

/-- R85: each of the 2^32 command words is one of the eight legal words of R83 or illegal; there is no other. -/
def Obligations.EveryWordIsLegalOrReserved : Prop :=
  ∀ tx : Transaction,
    (tx.cw = 0x00000001#32 → decode tx = .init) ∧
    (tx.cw = 0x00000002#32 → decode tx = .register tx.a tx.b tx.c tx.d) ∧
    (tx.cw = 0x00000003#32 → decode tx = .cancel tx.a) ∧
    (tx.cw = 0x00000004#32 → decode tx = .readTicks) ∧
    (tx.cw = 0x00000005#32 → decode tx = .readSeconds) ∧
    (tx.cw = 0x00000006#32 → decode tx = .readSnapshot) ∧
    (tx.cw = 0x00000007#32 → decode tx = .readRaw) ∧
    (tx.cw = 0x00000008#32 → decode tx = .callbackDone) ∧
    (tx.cw.toNat = 0 ∨ 9 ≤ tx.cw.toNat → decode tx = .reserved tx.cw)

/-- R82: REGISTER takes A to D, CANCEL takes A, and an operand a command ignores has no effect, whatever its value. -/
def Obligations.IgnoredOperandsHaveNoEffect : Prop :=
  ∀ tx tx' : Transaction, tx.cw = tx'.cw →
    (tx.cw = 0x00000002#32 → decode tx = .register tx.a tx.b tx.c tx.d) ∧
    (tx.cw = 0x00000003#32 → decode tx = .cancel tx.a) ∧
    (tx.cw ≠ 0x00000002#32 → tx.cw ≠ 0x00000003#32 → decode tx = decode tx')

/-- Words written out from R83 and the examples of R181, as the decoder reads them. -/
def Obligations.WrittenOutWordsDecode : Prop :=
  decodeTableWord 32 0x00000001 = some .init ∧
  decodeTableWord 64 0x0000000500000003 = some (.cancel 5) ∧
  decodeTableWord 32 0x00000004 = some .readTicks ∧
  decodeTableWord 32 0x00000008 = some .callbackDone ∧
  decodeTableWord 32 0x00000012 = some (.reserved 0x00000012#32) ∧
  decodeTableWord 32 0x80000004 = some (.reserved 0x80000004#32)

/-- R89: the sequencer's own steps have no command encoding, and no transaction the HOST can present is one. -/
def Obligations.InternalStepsHaveNoEncoding : Prop :=
  ∀ i : Instr, isCommand i = false → encode i = none ∧ ∀ tx : Transaction, decode tx ≠ i

/-! ## A step -/

/-- A step runs the decoded instruction: on the BLOCK's command turn with a transaction at the port, step is exec of what it
decodes to, at the state with that turn used up. -/
def Obligations.StepRunsTheDecodedCommand : Prop :=
  ∀ (s : State) (tx : Transaction) (rest : List Turn), s.cfg.admitted = true → s.sched = .command :: rest →
    s.port = some tx → step s = exec (decode tx) { s with sched := rest }

/-- On the BLOCK's other turn, step is exec of the step the sequencer selects; where it selects none, nothing but the
schedule changes. -/
def Obligations.StepRunsTheSequencersStep : Prop :=
  ∀ (s : State) (rest : List Turn), s.cfg.admitted = true → s.sched = .block :: rest →
    (∀ i, s.internalStep = some i → step s = exec i { s with sched := rest }) ∧
    (s.internalStep = none → step s = .next { s with sched := rest })

/-- R28's column "next step rule": which step each sequencer state selects; CB(i) and HALTED select none. -/
def Obligations.SequencerStateSelectsTheStep : Prop :=
  ∀ s : State,
    (s.seq = .idle → s.internalStep =
      if s.ie = true ∧ (s.m = true ∨ s.cfg.spuriousIrq = true) then some .t1 else none) ∧
    (s.seq = .i2 → s.internalStep = some .i2) ∧
    (s.seq = .i3 → s.internalStep = some .i3) ∧
    (s.seq = .t2 → s.internalStep = some .t2) ∧
    (s.seq = .t3 → s.internalStep = some .t3) ∧
    (s.seq = .t4 → s.internalStep = some .t4) ∧
    (s.seq = .t4b → s.internalStep = some .t4b) ∧
    (s.seq = .t5 → s.internalStep = some .t5) ∧
    (s.seq = .t6 → s.internalStep = some .t6) ∧
    (∀ i, s.seq = .scan i → i < s.cfg.k → s.internalStep = some (.scan i)) ∧
    (s.seq = .scan s.cfg.k → s.internalStep = some .scanK) ∧
    (∀ i, s.seq = .cb i → s.internalStep = none) ∧
    (s.seq = .halted → s.internalStep = none)

/-- R32: the CLOCK's advance, in every state of the block: CNT gains 1, and M is set if the new CNT equals CMP. -/
def Obligations.ClockTurnAdvancesAndMatches : Prop :=
  ∀ (s : State) (rest : List Turn), s.cfg.admitted = true → s.sched = .clock :: rest →
    step s = .next { s with
      sched := rest
      cnt := s.cnt + 1
      m := if s.cnt + 1 = s.cmp then true else s.m }

/-- Where no turn is decided, the next one is the free value, whatever it is (log 2). -/
def Obligations.UndecidedTurnIsTheFreeValue : Prop :=
  ∀ s : State, s.sched = [] →
    step s = step { s with sched := [Config.freeTurn s.fresh], fresh := s.fresh + 1 }

/-- R180: outside IDLE and CB(i) a presented command is held: the command turn changes nothing but the schedule. -/
def Obligations.CommandOutsideAcceptingStatesIsHeld : Prop :=
  ∀ (s : State) (rest : List Turn), s.cfg.admitted = true → s.sched = .command :: rest →
    s.seq ≠ .idle → (∀ i, s.seq ≠ .cb i) → step s = .next { s with sched := rest }

/-- The HOST's and the IC's turns: a presented transaction waits at the port, one at a time (R80, R180), with the low REF_W
bits of its references (log 8); the IC's answer waits for INIT (R183, log 7). -/
def Obligations.HostAndControllerTurns : Prop :=
  ∀ (s : State) (rest : List Turn), s.cfg.admitted = true →
    (∀ tx, s.sched = .present tx :: rest → s.port = none →
      step s = .next { s with
        sched := rest
        port := some { cw := tx.cw, a := tx.a, b := tx.b % 2 ^ s.cfg.refW, c := tx.c % 2 ^ s.cfg.refW,
                       d := tx.d % 2 ^ s.cfg.refW } }) ∧
    (∀ tx tx', s.sched = .present tx :: rest → s.port = some tx' → step s = .next { s with sched := rest }) ∧
    (∀ a, s.sched = .icAnswer a :: rest → step s = .next { s with sched := rest, icAnswer := some a })

/-- R240, R241: reset in any state, HALTED included: every register the spec gives a reset value has it, the others have the
draw's; what the HOST holds stays (log 9). -/
def Obligations.ResetTurnGivesTheResetState : Prop :=
  ∀ (s : State) (d : ResetDraws) (rest : List Turn), s.cfg.admitted = true → s.sched = .reset d :: rest →
    ∃ t, step s = .next t ∧ t.cfg = s.cfg ∧ t.ticks = 0 ∧ t.secs = 0 ∧ t.slots.length = s.cfg.k ∧
      (∀ i, (t.slotAt i).handler = 0) ∧ t.inited = false ∧ t.ie = false ∧ t.seq = .idle ∧ t.fault = 0 ∧
      t.nextCmp = d.nextCmp ∧ t.cntLatch = d.cntLatch ∧ t.cnt = d.cnt ∧ t.cmp = d.cmp ∧ t.m = d.m ∧
      t.port = s.port ∧ t.rsp = s.rsp ∧ t.events = s.events ∧ t.sched = rest ∧ t.status = 0

/-- R6: a configuration is admitted only within these bounds, and exactly a machine outside them is refused: it has no
model. -/
def Obligations.ConfigurationOutsideBoundsIsRefused : Prop :=
  ∀ s : State, step s = .refused .configurationNotAdmitted ↔
    ¬ (1 ≤ s.cfg.clockHz ∧ 1 ≤ s.cfg.hz ∧ s.cfg.hz ≤ s.cfg.clockHz ∧ s.cfg.clockHz / s.cfg.hz ≤ 2 ^ 31 - 1 ∧
      1 ≤ s.cfg.k ∧ s.cfg.k ≤ 2 ^ 32 - 1 ∧ 1 ≤ s.cfg.refW)

/-- A machine of an admitted configuration never stops: every step has a next state, a fault of the spec being one (R200,
log 10). -/
def Obligations.AdmittedMachineAlwaysSteps : Prop :=
  ∀ s : State, s.cfg.admitted = true → ∃ t, step s = .next t

/-- A word placed by withFetchWord is the instruction of the very next step (log 13). -/
def Obligations.PlacedWordRunsNext : Prop :=
  ∀ (s : State) (nbits w : Nat), s.cfg.admitted = true →
    step (s.withFetchWord nbits w) =
      exec (decode (Transaction.ofBits s.cfg.refW (w % 2 ^ nbits)))
        { s with port := some (Transaction.ofBits s.cfg.refW (w % 2 ^ nbits)) }

/-! ## The instructions' effects, and that they complete -/

/-- R183 with R182's row for INIT: in IDLE with INITED = 0 the IC's answer is drawn; accepted, the counter is latched and I2
follows; refused, IRQ_REGISTER. In any other accepting state BAD_CONTEXT. The clauses on icAccept, icAnswer and fresh are the
model's form of the draw (log 7, DESIGN CHOICE). -/
def Obligations.InitStepI1 : Prop :=
  (∀ tx : Transaction, tx.cw = 0x00000001#32 → decode tx = .init) ∧
  ∀ s : State,
    (s.seq = .idle → s.inited = false → s.icAccept = true → exec .init s = .next { s with
      port := none
      rsp := .undriven
      icAnswer := none
      fresh := if s.icAnswer.isSome then s.fresh else s.fresh + 1
      cntLatch := s.cnt
      seq := .i2 }) ∧
    (s.seq = .idle → s.inited = false → s.icAccept = false → exec .init s = .next { s with
      port := none
      rsp := .undriven
      icAnswer := none
      fresh := if s.icAnswer.isSome then s.fresh else s.fresh + 1
      fault := s.fault ||| 0b000001#6
      seq := .halted
      events := s.events ++ [.fault .irqRegister] }) ∧
    (s.seq = .idle → s.inited = true → exec .init s = .next (faultedCommand s 0b100000#6 .badContext)) ∧
    (∀ i, s.seq = .cb i → exec .init s = .next (faultedCommand s 0b100000#6 .badContext)) ∧
    (∀ a, s.icAnswer = some a → s.icAccept = a) ∧
    (s.icAnswer = none → s.icAccept = Config.freeIcAccept s.fresh)

/-- R184: the first deadline is the latched counter plus TPI. -/
def Obligations.InitStepI2 : Prop :=
  ∀ s : State, s.seq = .i2 → exec .i2 s = .next { s with
    cmp := s.cntLatch + BitVec.ofNat 32 (s.cfg.clockHz / s.cfg.hz)
    m := s.m || (s.cfg.matchOnWrite && decide (s.cntLatch + BitVec.ofNat 32 (s.cfg.clockHz / s.cfg.hz) = s.cnt))
    seq := .i3 }

/-- R185: clear a stale match if INIT_ACK holds, then enable. -/
def Obligations.InitStepI3 : Prop :=
  ∀ s : State, s.seq = .i3 → exec .i3 s = .next { s with
    m := if s.cfg.initAck then false else s.m
    ie := true
    inited := true
    seq := .idle }

/-- R140 with R141: a null handler faults before the search; a full table changes no slot, logs and answers handle 0;
otherwise the least free slot is filled and its handle answered. -/
def Obligations.RegisterFillsTheFirstFreeSlot : Prop :=
  (∀ tx : Transaction, tx.cw = 0x00000002#32 → decode tx = .register tx.a tx.b tx.c tx.d) ∧
  ∀ (s : State) (delayTicks : U32) (handler param context : Ref), (s.seq = .idle ∨ ∃ i, s.seq = .cb i) →
    s.slots.length = s.cfg.k →
    (handler = 0 →
      exec (.register delayTicks handler param context) s = .next (faultedCommand s 0b000100#6 .nullHandler)) ∧
    (handler ≠ 0 → (∀ i < s.cfg.k, (s.slotAt i).handler ≠ 0) →
      exec (.register delayTicks handler param context) s = .next { s with
        port := none
        rsp := .one 0
        events := s.events ++ [.log .panic .tableFull] }) ∧
    (∀ j, handler ≠ 0 → j < s.cfg.k → (s.slotAt j).handler = 0 → (∀ i < j, (s.slotAt i).handler ≠ 0) →
      exec (.register delayTicks handler param context) s = .next { s with
        port := none
        rsp := .one (BitVec.ofNat 32 (j + 1))
        slots := s.slots.set j
          { handler := handler, deadline := s.ticks + delayTicks, param := param, context := context } })

/-- R143 with R144: a handle in [1, K] clears the handler of its slot and nothing else; any other faults BAD_HANDLE and
changes no slot. -/
def Obligations.CancelFreesTheNamedSlot : Prop :=
  (∀ tx : Transaction, tx.cw = 0x00000003#32 → decode tx = .cancel tx.a) ∧
  ∀ (s : State) (handle : U32), (s.seq = .idle ∨ ∃ i, s.seq = .cb i) →
    (1 ≤ handle.toNat → handle.toNat ≤ s.cfg.k → exec (.cancel handle) s = .next { s with
      port := none
      rsp := .undriven
      slots := s.slots.set (handle.toNat - 1) { s.slotAt (handle.toNat - 1) with handler := 0 } }) ∧
    (handle.toNat = 0 ∨ s.cfg.k < handle.toNat →
      exec (.cancel handle) s = .next (faultedCommand s 0b001000#6 .badHandle))

/-- R121: READ_TICKS answers ticks and changes no other state. -/
def Obligations.ReadTicksAnswersTicks : Prop :=
  (∀ tx : Transaction, tx.cw = 0x00000004#32 → decode tx = .readTicks) ∧
  ∀ s : State, (s.seq = .idle ∨ ∃ i, s.seq = .cb i) →
    exec .readTicks s = .next { s with port := none, rsp := .one s.ticks }

/-- R122: READ_SECONDS answers secs and changes no other state. -/
def Obligations.ReadSecondsAnswersSecs : Prop :=
  (∀ tx : Transaction, tx.cw = 0x00000005#32 → decode tx = .readSeconds) ∧
  ∀ s : State, (s.seq = .idle ∨ ∃ i, s.seq = .cb i) →
    exec .readSeconds s = .next { s with port := none, rsp := .one s.secs }

/-- R123: READ_SNAPSHOT answers ticks and secs of one state. -/
def Obligations.ReadSnapshotAnswersBoth : Prop :=
  (∀ tx : Transaction, tx.cw = 0x00000006#32 → decode tx = .readSnapshot) ∧
  ∀ s : State, (s.seq = .idle ∨ ∃ i, s.seq = .cb i) →
    exec .readSnapshot s = .next { s with port := none, rsp := .two s.ticks s.secs }

/-- R124: READ_RAW answers CNT and changes no other state. -/
def Obligations.ReadRawAnswersTheCounter : Prop :=
  (∀ tx : Transaction, tx.cw = 0x00000007#32 → decode tx = .readRaw) ∧
  ∀ s : State, (s.seq = .idle ∨ ∃ i, s.seq = .cb i) →
    exec .readRaw s = .next { s with port := none, rsp := .one s.cnt }

/-- R164: CALLBACK_DONE in CB(i) goes on with SCAN(i + 1); in IDLE it is a context fault. -/
def Obligations.CallbackDoneResumesTheScan : Prop :=
  (∀ tx : Transaction, tx.cw = 0x00000008#32 → decode tx = .callbackDone) ∧
  ∀ s : State,
    (∀ i, s.seq = .cb i →
      exec .callbackDone s = .next { s with port := none, rsp := .undriven, seq := .scan (i + 1) }) ∧
    (s.seq = .idle → exec .callbackDone s = .next (faultedCommand s 0b100000#6 .badContext))

/-- R181: an illegal command word, by the fields of R81, faults ILLEGAL_CMD in every accepting state and changes nothing
else. -/
def Obligations.IllegalWordFaults : Prop :=
  ∀ (s : State) (tx : Transaction), (s.seq = .idle ∨ ∃ i, s.seq = .cb i) →
    (tx.cw.extractLsb' 4 28 ≠ 0 ∨ tx.cw.extractLsb' 0 4 = 0#4 ∨ 9 ≤ (tx.cw.extractLsb' 0 4).toNat) →
    decode tx = .reserved tx.cw ∧ exec (decode tx) s = .next (faultedCommand s 0b010000#6 .illegalCmd)

/-- R100: T1 enters the tick sequence with M = 1; with M = 0 it is enabled only by SPURIOUS_IRQ and faults; the sequencer
selects it in no other state. -/
def Obligations.TickStepT1 : Prop :=
  ∀ s : State,
    (s.seq = .idle → s.ie = true → s.m = true → exec .t1 s = .next { s with seq := .t2 }) ∧
    (s.seq = .idle → s.ie = true → s.m = false → s.cfg.spuriousIrq = true → exec .t1 s = .next { s with
      fault := s.fault ||| 0b000010#6
      seq := .halted
      events := s.events ++ [.fault .spuriousIrq] }) ∧
    (s.internalStep = some .t1 ↔ s.seq = .idle ∧ s.ie = true ∧ (s.m = true ∨ s.cfg.spuriousIrq = true))

/-- R101: nextCmp is the compare register plus TPI. -/
def Obligations.TickStepT2 : Prop :=
  ∀ s : State, s.seq = .t2 → exec .t2 s = .next { s with
    nextCmp := s.cmp + BitVec.ofNat 32 (s.cfg.clockHz / s.cfg.hz)
    seq := .t3 }

/-- R102: the compare register is nextCmp; M is touched only under MATCH_ON_WRITE. -/
def Obligations.TickStepT3 : Prop :=
  ∀ s : State, s.seq = .t3 → exec .t3 s = .next { s with
    cmp := s.nextCmp
    m := s.m || (s.cfg.matchOnWrite && decide (s.nextCmp = s.cnt))
    seq := .t4 }

/-- R103 with R104: the counter is latched once and nextCmp is tested against it, signed with equality late, or
unsigned. -/
def Obligations.TickStepT4 : Prop :=
  ∀ s : State, s.seq = .t4 →
    (s.cfg.drift = .signedLE → exec .t4 s = .next { s with
      cntLatch := s.cnt
      seq := if (s.nextCmp - s.cnt).toInt ≤ 0 then .t4b else .t5 }) ∧
    (s.cfg.drift = .unsignedLT → exec .t4 s = .next { s with
      cntLatch := s.cnt
      seq := if s.nextCmp.toNat < s.cnt.toNat then .t4b else .t5 })

/-- R105: the corrected compare is the latched counter plus TPI; nextCmp stays. -/
def Obligations.TickStepT4B : Prop :=
  ∀ s : State, s.seq = .t4b → exec .t4b s = .next { s with
    cmp := s.cntLatch + BitVec.ofNat 32 (s.cfg.clockHz / s.cfg.hz)
    m := s.m || (s.cfg.matchOnWrite && decide (s.cntLatch + BitVec.ofNat 32 (s.cfg.clockHz / s.cfg.hz) = s.cnt))
    seq := .t5 }

/-- R106: T5 clears M whatever set it. -/
def Obligations.TickStepT5 : Prop :=
  ∀ s : State, s.seq = .t5 → exec .t5 s = .next { s with m := false, seq := .t6 }

/-- R120: ticks gains 1, secs gains 1 when the new ticks is a multiple of HZ, in one step. -/
def Obligations.TickStepT6 : Prop :=
  ∀ s : State, s.seq = .t6 → exec .t6 s = .next { s with
    ticks := s.ticks + 1
    secs := if (s.ticks + 1).toNat % s.cfg.hz = 0 then s.secs + 1 else s.secs
    seq := .scan 0 }

/-- R160 with R161 and R162: a due slot is freed first, fired with what it held, and awaited; any other is passed by. -/
def Obligations.ScanVisitsOneSlot : Prop :=
  ∀ (s : State) (i : Nat), s.seq = .scan i → i < s.cfg.k →
    ((s.slotAt i).handler ≠ 0 → ((s.slotAt i).deadline - s.ticks).toInt ≤ 0 → exec (.scan i) s = .next { s with
      slots := s.slots.set i { s.slotAt i with handler := 0 }
      events := s.events ++
        [.fire (BitVec.ofNat 32 (i + 1)) (s.slotAt i).handler (s.slotAt i).param (s.slotAt i).context]
      seq := .cb i }) ∧
    ((s.slotAt i).handler = 0 ∨ 0 < ((s.slotAt i).deadline - s.ticks).toInt →
      exec (.scan i) s = .next { s with seq := .scan (i + 1) })

/-- R163: SCAN(K) returns to IDLE. -/
def Obligations.ScanEndReturnsToIdle : Prop :=
  ∀ s : State, s.seq = .scan s.cfg.k → exec .scanK s = .next { s with seq := .idle }

/-- The model's choice (log 3): a step of the sequencer asked for where the sequencer does not select it, or a command in a
state that accepts none (R180), changes nothing. -/
def Obligations.InstructionOutOfTurnChangesNothing : Prop :=
  ∀ (i : Instr) (s : State),
    (isCommand i = false → s.internalStep ≠ some i → exec i s = .next s) ∧
    (isCommand i = true → s.seq ≠ .idle → (∀ j, s.seq ≠ .cb j) → exec i s = .next s)

/-! ## Frames over all instructions -/

/-- R20, R21: only T6 writes ticks and secs; it adds exactly 1 to ticks, and nothing or 1 to secs. -/
def Obligations.OnlyT6WritesTheTimeCounters : Prop :=
  ∀ (i : Instr) (s t : State), exec i s = .next t →
    (i = .t6 ∧ s.seq = .t6 ∧ t.ticks = s.ticks + 1 ∧ (t.secs = s.secs ∨ t.secs = s.secs + 1)) ∨
    (t.ticks = s.ticks ∧ t.secs = s.secs)

/-- R24 over a step: slot j changes only by a REGISTER that found it free, a CANCEL naming it, the scan firing it, or a
reset; the first occupies it, the others free it. -/
def Obligations.SlotChangesOnlyByItsLifecycle : Prop :=
  ∀ (s t : State) (j : Nat), step s = .next t → t.slotAt j ≠ s.slotAt j →
    (∃ tx delayTicks handler param context, s.nextTurn = .command ∧ s.port = some tx ∧
      decode tx = .register delayTicks handler param context ∧ (s.slotAt j).handler = 0 ∧ handler ≠ 0 ∧
      t.slotAt j = { handler := handler, deadline := s.ticks + delayTicks, param := param, context := context } ∧
      t.rsp = .one (BitVec.ofNat 32 (j + 1))) ∨
    (∃ tx handle, s.nextTurn = .command ∧ s.port = some tx ∧ decode tx = .cancel handle ∧ handle.toNat = j + 1 ∧
      t.slotAt j = { s.slotAt j with handler := 0 }) ∨
    (s.nextTurn = .block ∧ s.seq = .scan j ∧ t.seq = .cb j ∧ t.slotAt j = { s.slotAt j with handler := 0 }) ∨
    (∃ d, s.nextTurn = .reset d ∧ (t.slotAt j).handler = 0)

/-- R33, R34, R61: no instruction writes CNT; CMP is written only by T3, T4B and I2; M is cleared only by T5 and, under
INIT_ACK, I3, and set only under MATCH_ON_WRITE by a compare write. -/
def Obligations.ClockRegisterWriters : Prop :=
  ∀ (i : Instr) (s t : State), exec i s = .next t →
    t.cnt = s.cnt ∧
    (t.cmp = s.cmp ∨ i = .t3 ∨ i = .t4b ∨ i = .i2) ∧
    (s.m = true → t.m = false → i = .t5 ∨ (i = .i3 ∧ s.cfg.initAck = true)) ∧
    (s.m = false → t.m = true → s.cfg.matchOnWrite = true ∧ t.cmp = s.cnt ∧ (i = .t3 ∨ i = .t4b ∨ i = .i2))

/-- Which instructions write the latches, the enables and the table: nextCmp T2; cntLatch INIT and T4; INITED and IE I3;
slots REGISTER, CANCEL and SCAN(i) (R24, R26, R27, R29). -/
def Obligations.LatchEnableAndTableWriters : Prop :=
  ∀ (i : Instr) (s t : State), exec i s = .next t →
    (t.nextCmp = s.nextCmp ∨ i = .t2) ∧
    (t.cntLatch = s.cntLatch ∨ i = .init ∨ i = .t4) ∧
    ((t.inited = s.inited ∧ t.ie = s.ie) ∨ (i = .i3 ∧ t.inited = true ∧ t.ie = true)) ∧
    (t.slots = s.slots ∨ (∃ d h p c, i = .register d h p c) ∨ (∃ h, i = .cancel h) ∨ ∃ j, i = .scan j)

/-- The event history is only appended to, by at most one event a step, and the configuration never changes (00_scope.md
section 6, R204; log 1). -/
def Obligations.HistoryGrowsAndConfigurationStays : Prop :=
  ∀ s t : State, step s = .next t →
    t.cfg = s.cfg ∧ (t.events = s.events ∨ ∃ e, t.events = s.events ++ [e])

/-! ## Invariants and rules of the whole machine -/

/-- Every step keeps the invariant: K slots of REF_W-bit references, a legal sequencer value, IE and INITED together, tick
sequences only after INIT, and FAULT with at most one bit, set exactly when halted. -/
def Obligations.InvariantKeptByEveryStep : Prop :=
  ∀ s t : State, s.Inv → step s = .next t → t.Inv

/-- The invariant holds right after reset, for every admitted configuration and every draw. -/
def Obligations.EveryResetStateMeetsTheInvariant : Prop :=
  (∀ (c : Config) (d : ResetDraws), c.admitted = true → (State.resetOf c d).Inv) ∧ State.reset.Inv

/-- R108: with DRIFT_COMPARE = SIGNED_LE, at T5 the compare register is at least 1 ahead of the counter value T4 read, in
the signed difference; kept by every step. -/
def Obligations.CompareAheadOfTheCheckedCounter : Prop :=
  ∀ s t : State, s.cfg.drift = .signedLE → s.DriftInv → step s = .next t → t.DriftInv

/-- R201: in HALTED no turn but reset changes anything of the block; the CLOCK may still write CNT and M. -/
def Obligations.HaltedIsLeftOnlyByReset : Prop :=
  ∀ s t : State, s.seq = .halted → turnIsReset s.nextTurn = false → step s = .next t →
    t.seq = .halted ∧ t.fault = s.fault ∧ t.ticks = s.ticks ∧ t.secs = s.secs ∧ t.slots = s.slots ∧
    t.inited = s.inited ∧ t.ie = s.ie ∧ t.nextCmp = s.nextCmp ∧ t.cntLatch = s.cntLatch ∧ t.cmp = s.cmp ∧
    t.rsp = s.rsp ∧ t.events = s.events ∧ (∀ tx, s.port = some tx → t.port = some tx)

/-- R26, R27, R30: between resets INITED, IE and every FAULT bit, once set, stay set; INITED is set only by I3, with IE. -/
def Obligations.StickyBitsStayUntilReset : Prop :=
  ∀ s t : State, turnIsReset s.nextTurn = false → step s = .next t →
    (s.inited = true → t.inited = true) ∧ (s.ie = true → t.ie = true) ∧ s.fault ||| t.fault = t.fault ∧
    (s.inited = false → t.inited = true → s.seq = .i3 ∧ t.ie = true)

/-- R100: with SPURIOUS_IRQ false the fault SPURIOUS_IRQ is never raised, by any step. -/
def Obligations.SpuriousFaultNeedsItsParameter : Prop :=
  ∀ s t : State, s.cfg.spuriousIrq = false → step s = .next t →
    (t.fault.getLsbD 1 = true → s.fault.getLsbD 1 = true) ∧ t.events ≠ s.events ++ [.fault .spuriousIrq]

/-- R31: the STATUS word, bit by bit, and that it reads 0 after every reset. -/
def Obligations.StatusWordLayout : Prop :=
  (∀ (c : Config) (d : ResetDraws), (State.resetOf c d).status = 0) ∧
  ∀ s : State,
    s.status.getLsbD 0 = s.inited ∧
    s.status.getLsbD 1 = s.ie ∧
    (s.status.getLsbD 2 = true ↔ s.seq = .i2 ∨ s.seq = .i3 ∨ s.seq = .t2 ∨ s.seq = .t3 ∨ s.seq = .t4 ∨ s.seq = .t4b ∨
      s.seq = .t5 ∨ s.seq = .t6 ∨ ∃ i, s.seq = .scan i) ∧
    (s.status.getLsbD 3 = true ↔ ∃ i, s.seq = .cb i) ∧
    (s.status.getLsbD 4 = true ↔ s.seq = .halted) ∧
    (∀ b, 5 ≤ b → b ≤ 7 → s.status.getLsbD b = false) ∧
    (∀ b, b < 6 → s.status.getLsbD (8 + b) = s.fault.getLsbD b) ∧
    (∀ b, 14 ≤ b → s.status.getLsbD b = false)

/-- R125 with R22: in a run from any reset state, over any turns, ticks is the number N of T6 steps since the last reset,
modulo 2^32, and secs is floor(N / HZ) while N <= 2^32 - 1. -/
def Obligations.TicksAndSecondsCountTickSequences : Prop :=
  ∀ (c : Config) (d : ResetDraws) (ts : List Turn) (k : Nat) (t : State),
    Host.Core.run Sys2Proof.core k { State.resetOf c d with sched := ts } = .next t →
    let n := t6SinceReset k { State.resetOf c d with sched := ts } 0
    t.ticks = BitVec.ofNat 32 n ∧ (n ≤ 2 ^ 32 - 1 → t.secs.toNat = n / c.hz)

/-- R166, the comparator's part: a timer registered at T with delay D <= 2^31 is first due at T + max(D, 1) among the ticks
after T, and one with a larger D is due at T + 1. -/
def Obligations.TimerFirstDueAtItsDelay : Prop :=
  ∀ (slot : Slot) (tick delay : U32), slot.handler ≠ 0 → slot.deadline = tick + delay →
    (delay.toNat ≤ 2 ^ 31 → slot.due (tick + BitVec.ofNat 32 (max delay.toNat 1)) = true ∧
      ∀ n, 1 ≤ n → n < max delay.toNat 1 → slot.due (tick + BitVec.ofNat 32 n) = false) ∧
    (2 ^ 31 + 1 ≤ delay.toNat → slot.due (tick + 1) = true)

/-- R145: a handle REGISTER answers, other than 0, names a slot that was free before and is the new timer's after. -/
def Obligations.RegisterNeverAnswersALiveHandle : Prop :=
  ∀ (s t : State) (delayTicks : U32) (handler param context : Ref) (handle : U32), s.Inv →
    (s.seq = .idle ∨ ∃ i, s.seq = .cb i) → handler ≠ 0 →
    exec (.register delayTicks handler param context) s = .next t → t.rsp = .one handle → handle ≠ 0 →
    1 ≤ handle.toNat ∧ handle.toNat ≤ s.cfg.k ∧ (s.slotAt (handle.toNat - 1)).handler = 0 ∧
    t.slotAt (handle.toNat - 1) =
      { handler := handler, deadline := s.ticks + delayTicks, param := param, context := context } ∧
    ∀ j, j ≠ handle.toNat - 1 → t.slotAt j = s.slotAt j

/-- R147: from an empty table, K REGISTERs answer handles 1 to K in order, one more answers 0 with one Log event, and the
first K slots keep their own contents. The commands are performed back to back: no turn of another agent and no scan falls
between them, which R147 would allow where the scan fires nothing. -/
def Obligations.TableTakesKTimersAndNoMore : Prop :=
  ∀ (s : State) (reqs : List (U32 × Ref × Ref × Ref)) (delayTicks : U32) (handler param context : Ref), s.Inv →
    (s.seq = .idle ∨ ∃ i, s.seq = .cb i) → (∀ i, (s.slotAt i).handler = 0) → reqs.length = s.cfg.k →
    (∀ r ∈ reqs, r.2.1 ≠ 0) → handler ≠ 0 →
    ∃ t, performAll (reqs.map (fun r => .register r.1 r.2.1 r.2.2.1 r.2.2.2) ++
        [.register delayTicks handler param context]) s =
      some (t, (List.range s.cfg.k).map (fun j => .one (BitVec.ofNat 32 (j + 1))) ++ [.one 0]) ∧
    t.slots = reqs.map (fun r =>
      { handler := r.2.1, deadline := s.ticks + r.1, param := r.2.2.1, context := r.2.2.2 }) ∧
    t.events = s.events ++ [.log .panic .tableFull] ∧ t.seq = s.seq ∧ t.ticks = s.ticks

/-- R167 with R168: a scan whose every FIRE the HOST answers visits each index once in increasing order, fires exactly the
due slots in that order, frees them, leaves the others, and ends in IDLE. The one run in which each FIRE is answered at once
by CALLBACK_DONE: no callback issues another command and no CLOCK turn falls between. -/
def Obligations.ScanFiresDueSlotsInOrderAndEnds : Prop :=
  ∀ s : State, s.Inv → s.seq = .scan 0 → s.port = none →
    ∃ t, runTurns (scanTurns s 0 s.cfg.k) s = .next t ∧ t.seq = .idle ∧
      t.events = s.events ++ fireEvents s 0 s.cfg.k ∧
      t.slots = s.slots.map (fun slot => if slot.due s.ticks then { slot with handler := 0 } else slot) ∧
      t.ticks = s.ticks ∧ t.secs = s.secs ∧ t.cmp = s.cmp ∧ t.m = s.m ∧ t.cnt = s.cnt ∧ t.fault = s.fault ∧
      t.ie = s.ie ∧ t.inited = s.inited

/-- R253 with R100 to R106 and R120: with no other agent between, a tick sequence is 6 steps, 7 when late, and advances the
compare by TPI, from the counter when late. -/
def Obligations.TickSequenceTakesSixOrSevenSteps : Prop :=
  ∀ s : State, s.cfg.admitted = true → s.seq = .idle → s.ie = true → s.m = true →
    let next := s.cmp + BitVec.ofNat 32 (s.cfg.clockHz / s.cfg.hz)
    let secs := if (s.ticks + 1).toNat % s.cfg.hz = 0 then s.secs + 1 else s.secs
    (late s.cfg.drift next s.cnt = false → runTurns (List.replicate 6 .block) s = .next { s with
      ticks := s.ticks + 1, secs := secs, nextCmp := next, cntLatch := s.cnt, cmp := next, m := false,
      seq := .scan 0, sched := [] }) ∧
    (late s.cfg.drift next s.cnt = true → runTurns (List.replicate 7 .block) s = .next { s with
      ticks := s.ticks + 1, secs := secs, nextCmp := next, cntLatch := s.cnt,
      cmp := s.cnt + BitVec.ofNat 32 (s.cfg.clockHz / s.cfg.hz), m := false, seq := .scan 0, sched := [] })

/-- R253 with R183 to R185: an accepted INIT is 3 steps and leaves the interrupt enabled with the first deadline TPI after
the counter. -/
def Obligations.InitTakesThreeSteps : Prop :=
  ∀ (s : State) (tx : Transaction), s.cfg.admitted = true → s.seq = .idle → s.inited = false →
    s.port = some tx → tx.cw = 0x00000001#32 → s.icAnswer = some true →
    s.cfg.initAck = true →
    runTurns [.command, .block, .block] s = .next { s with
      port := none, rsp := .undriven, icAnswer := none, cntLatch := s.cnt,
      cmp := s.cnt + BitVec.ofNat 32 (s.cfg.clockHz / s.cfg.hz), m := false, ie := true, inited := true,
      seq := .idle, sched := [] }

/-- R244's distance: n steps of the CLOCK alone, n <= 2^32, set M exactly when n reaches the distance from CNT up to CMP, a
whole wrap of 2^32 if they are equal. -/
def Obligations.MatchComesExactlyAtTheDistance : Prop :=
  ∀ (s : State) (n : Nat), s.cfg.admitted = true → s.m = false → n ≤ 2 ^ 32 →
    ∃ t, runTurns (List.replicate n .clock) s = .next t ∧ t.cnt = s.cnt + BitVec.ofNat 32 n ∧ t.cmp = s.cmp ∧
      (t.m = true ↔ (if s.cmp = s.cnt then 2 ^ 32 else (s.cmp - s.cnt).toNat) ≤ n)

/-- R186: after INIT's counter read, with INIT_ACK true and neither MATCH_ON_WRITE nor a spurious entry, fewer than TPI
CLOCK steps, whatever else happens but a reset, start no tick sequence. -/
def Obligations.FirstTickNotBeforeTpiCounts : Prop :=
  ∀ (s t : State) (ts : List Turn) (k : Nat), s.Inv → s.seq = .i2 → s.cntLatch = s.cnt →
    s.cfg.initAck = true → s.cfg.matchOnWrite = false → s.cfg.spuriousIrq = false →
    k ≤ ts.length → (∀ u ∈ ts, turnIsReset u = false) → (ts.filter turnIsClock).length < s.cfg.clockHz / s.cfg.hz →
    Host.Core.run Sys2Proof.core k { s with sched := ts } = .next t →
    t.seq.inTick = false ∧ t.ticks = s.ticks

/-- R37: the stale fields of a free slot are unobservable: two states that differ in nothing else go on so, step by step,
with the same outputs. -/
def Obligations.StaleSlotFieldsAreUnobservable : Prop :=
  ∀ s s' t : State, s.SameButStale s' → step s = .next t → ∃ t', step s' = .next t' ∧ t.SameButStale t'

/-- R22 and R125 as a step keeps them: if ticks and secs count n steps T6 since reset, then after any step of any agent they
count the number that the step makes of n; right after reset they count 0. -/
def Obligations.EveryStepKeepsTheTickCount : Prop :=
  (∀ (c : Config) (d : ResetDraws), (State.resetOf c d).CountsT6 0) ∧
  ∀ (s t : State) (n : Nat), s.CountsT6 n → step s = .next t → t.CountsT6 (countT6 s n)
end

