-- ==== Sys2Proof/Laws/State.lean ====
section
/-!
SUPPORT. One lemma for each field of the state under each named update, true by rfl: no proof unfolds a record update.
-/

namespace Sys2Proof.Machine

open Sys2Proof

variable (s : State)

/-! ### memWriteCmp -/

@[simp] theorem State.memWriteCmp_cfg (v : U32) : (s.memWriteCmp v).cfg = s.cfg := rfl
@[simp] theorem State.memWriteCmp_ticks (v : U32) : (s.memWriteCmp v).ticks = s.ticks := rfl
@[simp] theorem State.memWriteCmp_secs (v : U32) : (s.memWriteCmp v).secs = s.secs := rfl
@[simp] theorem State.memWriteCmp_slots (v : U32) : (s.memWriteCmp v).slots = s.slots := rfl
@[simp] theorem State.memWriteCmp_inited (v : U32) : (s.memWriteCmp v).inited = s.inited := rfl
@[simp] theorem State.memWriteCmp_ie (v : U32) : (s.memWriteCmp v).ie = s.ie := rfl
@[simp] theorem State.memWriteCmp_seq (v : U32) : (s.memWriteCmp v).seq = s.seq := rfl
@[simp] theorem State.memWriteCmp_nextCmp (v : U32) : (s.memWriteCmp v).nextCmp = s.nextCmp := rfl
@[simp] theorem State.memWriteCmp_cntLatch (v : U32) : (s.memWriteCmp v).cntLatch = s.cntLatch := rfl
@[simp] theorem State.memWriteCmp_fault (v : U32) : (s.memWriteCmp v).fault = s.fault := rfl
@[simp] theorem State.memWriteCmp_cnt (v : U32) : (s.memWriteCmp v).cnt = s.cnt := rfl
@[simp] theorem State.memWriteCmp_cmp (v : U32) : (s.memWriteCmp v).cmp = v := rfl
@[simp] theorem State.memWriteCmp_m (v : U32) : (s.memWriteCmp v).m = (s.m || (s.cfg.matchOnWrite && v == s.cnt)) := rfl
@[simp] theorem State.memWriteCmp_port (v : U32) : (s.memWriteCmp v).port = s.port := rfl
@[simp] theorem State.memWriteCmp_rsp (v : U32) : (s.memWriteCmp v).rsp = s.rsp := rfl
@[simp] theorem State.memWriteCmp_events (v : U32) : (s.memWriteCmp v).events = s.events := rfl
@[simp] theorem State.memWriteCmp_sched (v : U32) : (s.memWriteCmp v).sched = s.sched := rfl
@[simp] theorem State.memWriteCmp_icAnswer (v : U32) : (s.memWriteCmp v).icAnswer = s.icAnswer := rfl
@[simp] theorem State.memWriteCmp_fresh (v : U32) : (s.memWriteCmp v).fresh = s.fresh := rfl

/-! ### ackStatus -/

@[simp] theorem State.ackStatus_cfg : (s.ackStatus).cfg = s.cfg := rfl
@[simp] theorem State.ackStatus_ticks : (s.ackStatus).ticks = s.ticks := rfl
@[simp] theorem State.ackStatus_secs : (s.ackStatus).secs = s.secs := rfl
@[simp] theorem State.ackStatus_slots : (s.ackStatus).slots = s.slots := rfl
@[simp] theorem State.ackStatus_inited : (s.ackStatus).inited = s.inited := rfl
@[simp] theorem State.ackStatus_ie : (s.ackStatus).ie = s.ie := rfl
@[simp] theorem State.ackStatus_seq : (s.ackStatus).seq = s.seq := rfl
@[simp] theorem State.ackStatus_nextCmp : (s.ackStatus).nextCmp = s.nextCmp := rfl
@[simp] theorem State.ackStatus_cntLatch : (s.ackStatus).cntLatch = s.cntLatch := rfl
@[simp] theorem State.ackStatus_fault : (s.ackStatus).fault = s.fault := rfl
@[simp] theorem State.ackStatus_cnt : (s.ackStatus).cnt = s.cnt := rfl
@[simp] theorem State.ackStatus_cmp : (s.ackStatus).cmp = s.cmp := rfl
@[simp] theorem State.ackStatus_m : (s.ackStatus).m = false := rfl
@[simp] theorem State.ackStatus_port : (s.ackStatus).port = s.port := rfl
@[simp] theorem State.ackStatus_rsp : (s.ackStatus).rsp = s.rsp := rfl
@[simp] theorem State.ackStatus_events : (s.ackStatus).events = s.events := rfl
@[simp] theorem State.ackStatus_sched : (s.ackStatus).sched = s.sched := rfl
@[simp] theorem State.ackStatus_icAnswer : (s.ackStatus).icAnswer = s.icAnswer := rfl
@[simp] theorem State.ackStatus_fresh : (s.ackStatus).fresh = s.fresh := rfl

/-! ### goto -/

@[simp] theorem State.goto_cfg (q : Seq) : (s.goto q).cfg = s.cfg := rfl
@[simp] theorem State.goto_ticks (q : Seq) : (s.goto q).ticks = s.ticks := rfl
@[simp] theorem State.goto_secs (q : Seq) : (s.goto q).secs = s.secs := rfl
@[simp] theorem State.goto_slots (q : Seq) : (s.goto q).slots = s.slots := rfl
@[simp] theorem State.goto_inited (q : Seq) : (s.goto q).inited = s.inited := rfl
@[simp] theorem State.goto_ie (q : Seq) : (s.goto q).ie = s.ie := rfl
@[simp] theorem State.goto_seq (q : Seq) : (s.goto q).seq = q := rfl
@[simp] theorem State.goto_nextCmp (q : Seq) : (s.goto q).nextCmp = s.nextCmp := rfl
@[simp] theorem State.goto_cntLatch (q : Seq) : (s.goto q).cntLatch = s.cntLatch := rfl
@[simp] theorem State.goto_fault (q : Seq) : (s.goto q).fault = s.fault := rfl
@[simp] theorem State.goto_cnt (q : Seq) : (s.goto q).cnt = s.cnt := rfl
@[simp] theorem State.goto_cmp (q : Seq) : (s.goto q).cmp = s.cmp := rfl
@[simp] theorem State.goto_m (q : Seq) : (s.goto q).m = s.m := rfl
@[simp] theorem State.goto_port (q : Seq) : (s.goto q).port = s.port := rfl
@[simp] theorem State.goto_rsp (q : Seq) : (s.goto q).rsp = s.rsp := rfl
@[simp] theorem State.goto_events (q : Seq) : (s.goto q).events = s.events := rfl
@[simp] theorem State.goto_sched (q : Seq) : (s.goto q).sched = s.sched := rfl
@[simp] theorem State.goto_icAnswer (q : Seq) : (s.goto q).icAnswer = s.icAnswer := rfl
@[simp] theorem State.goto_fresh (q : Seq) : (s.goto q).fresh = s.fresh := rfl

/-! ### emit -/

@[simp] theorem State.emit_cfg (e : Event) : (s.emit e).cfg = s.cfg := rfl
@[simp] theorem State.emit_ticks (e : Event) : (s.emit e).ticks = s.ticks := rfl
@[simp] theorem State.emit_secs (e : Event) : (s.emit e).secs = s.secs := rfl
@[simp] theorem State.emit_slots (e : Event) : (s.emit e).slots = s.slots := rfl
@[simp] theorem State.emit_inited (e : Event) : (s.emit e).inited = s.inited := rfl
@[simp] theorem State.emit_ie (e : Event) : (s.emit e).ie = s.ie := rfl
@[simp] theorem State.emit_seq (e : Event) : (s.emit e).seq = s.seq := rfl
@[simp] theorem State.emit_nextCmp (e : Event) : (s.emit e).nextCmp = s.nextCmp := rfl
@[simp] theorem State.emit_cntLatch (e : Event) : (s.emit e).cntLatch = s.cntLatch := rfl
@[simp] theorem State.emit_fault (e : Event) : (s.emit e).fault = s.fault := rfl
@[simp] theorem State.emit_cnt (e : Event) : (s.emit e).cnt = s.cnt := rfl
@[simp] theorem State.emit_cmp (e : Event) : (s.emit e).cmp = s.cmp := rfl
@[simp] theorem State.emit_m (e : Event) : (s.emit e).m = s.m := rfl
@[simp] theorem State.emit_port (e : Event) : (s.emit e).port = s.port := rfl
@[simp] theorem State.emit_rsp (e : Event) : (s.emit e).rsp = s.rsp := rfl
@[simp] theorem State.emit_events (e : Event) : (s.emit e).events = s.events ++ [e] := rfl
@[simp] theorem State.emit_sched (e : Event) : (s.emit e).sched = s.sched := rfl
@[simp] theorem State.emit_icAnswer (e : Event) : (s.emit e).icAnswer = s.icAnswer := rfl
@[simp] theorem State.emit_fresh (e : Event) : (s.emit e).fresh = s.fresh := rfl

/-! ### respond -/

@[simp] theorem State.respond_cfg (r : Response) : (s.respond r).cfg = s.cfg := rfl
@[simp] theorem State.respond_ticks (r : Response) : (s.respond r).ticks = s.ticks := rfl
@[simp] theorem State.respond_secs (r : Response) : (s.respond r).secs = s.secs := rfl
@[simp] theorem State.respond_slots (r : Response) : (s.respond r).slots = s.slots := rfl
@[simp] theorem State.respond_inited (r : Response) : (s.respond r).inited = s.inited := rfl
@[simp] theorem State.respond_ie (r : Response) : (s.respond r).ie = s.ie := rfl
@[simp] theorem State.respond_seq (r : Response) : (s.respond r).seq = s.seq := rfl
@[simp] theorem State.respond_nextCmp (r : Response) : (s.respond r).nextCmp = s.nextCmp := rfl
@[simp] theorem State.respond_cntLatch (r : Response) : (s.respond r).cntLatch = s.cntLatch := rfl
@[simp] theorem State.respond_fault (r : Response) : (s.respond r).fault = s.fault := rfl
@[simp] theorem State.respond_cnt (r : Response) : (s.respond r).cnt = s.cnt := rfl
@[simp] theorem State.respond_cmp (r : Response) : (s.respond r).cmp = s.cmp := rfl
@[simp] theorem State.respond_m (r : Response) : (s.respond r).m = s.m := rfl
@[simp] theorem State.respond_port (r : Response) : (s.respond r).port = s.port := rfl
@[simp] theorem State.respond_rsp (r : Response) : (s.respond r).rsp = r := rfl
@[simp] theorem State.respond_events (r : Response) : (s.respond r).events = s.events := rfl
@[simp] theorem State.respond_sched (r : Response) : (s.respond r).sched = s.sched := rfl
@[simp] theorem State.respond_icAnswer (r : Response) : (s.respond r).icAnswer = s.icAnswer := rfl
@[simp] theorem State.respond_fresh (r : Response) : (s.respond r).fresh = s.fresh := rfl

/-! ### setSlot -/

@[simp] theorem State.setSlot_cfg (i : Nat) (slot : Slot) : (s.setSlot i slot).cfg = s.cfg := rfl
@[simp] theorem State.setSlot_ticks (i : Nat) (slot : Slot) : (s.setSlot i slot).ticks = s.ticks := rfl
@[simp] theorem State.setSlot_secs (i : Nat) (slot : Slot) : (s.setSlot i slot).secs = s.secs := rfl
@[simp] theorem State.setSlot_slots (i : Nat) (slot : Slot) : (s.setSlot i slot).slots = s.slots.set i slot := rfl
@[simp] theorem State.setSlot_inited (i : Nat) (slot : Slot) : (s.setSlot i slot).inited = s.inited := rfl
@[simp] theorem State.setSlot_ie (i : Nat) (slot : Slot) : (s.setSlot i slot).ie = s.ie := rfl
@[simp] theorem State.setSlot_seq (i : Nat) (slot : Slot) : (s.setSlot i slot).seq = s.seq := rfl
@[simp] theorem State.setSlot_nextCmp (i : Nat) (slot : Slot) : (s.setSlot i slot).nextCmp = s.nextCmp := rfl
@[simp] theorem State.setSlot_cntLatch (i : Nat) (slot : Slot) : (s.setSlot i slot).cntLatch = s.cntLatch := rfl
@[simp] theorem State.setSlot_fault (i : Nat) (slot : Slot) : (s.setSlot i slot).fault = s.fault := rfl
@[simp] theorem State.setSlot_cnt (i : Nat) (slot : Slot) : (s.setSlot i slot).cnt = s.cnt := rfl
@[simp] theorem State.setSlot_cmp (i : Nat) (slot : Slot) : (s.setSlot i slot).cmp = s.cmp := rfl
@[simp] theorem State.setSlot_m (i : Nat) (slot : Slot) : (s.setSlot i slot).m = s.m := rfl
@[simp] theorem State.setSlot_port (i : Nat) (slot : Slot) : (s.setSlot i slot).port = s.port := rfl
@[simp] theorem State.setSlot_rsp (i : Nat) (slot : Slot) : (s.setSlot i slot).rsp = s.rsp := rfl
@[simp] theorem State.setSlot_events (i : Nat) (slot : Slot) : (s.setSlot i slot).events = s.events := rfl
@[simp] theorem State.setSlot_sched (i : Nat) (slot : Slot) : (s.setSlot i slot).sched = s.sched := rfl
@[simp] theorem State.setSlot_icAnswer (i : Nat) (slot : Slot) : (s.setSlot i slot).icAnswer = s.icAnswer := rfl
@[simp] theorem State.setSlot_fresh (i : Nat) (slot : Slot) : (s.setSlot i slot).fresh = s.fresh := rfl

/-! ### freeSlot -/

@[simp] theorem State.freeSlot_cfg (i : Nat) : (s.freeSlot i).cfg = s.cfg := rfl
@[simp] theorem State.freeSlot_ticks (i : Nat) : (s.freeSlot i).ticks = s.ticks := rfl
@[simp] theorem State.freeSlot_secs (i : Nat) : (s.freeSlot i).secs = s.secs := rfl
@[simp] theorem State.freeSlot_slots (i : Nat) :
    (s.freeSlot i).slots = s.slots.set i { s.slotAt i with handler := 0 } := rfl
@[simp] theorem State.freeSlot_inited (i : Nat) : (s.freeSlot i).inited = s.inited := rfl
@[simp] theorem State.freeSlot_ie (i : Nat) : (s.freeSlot i).ie = s.ie := rfl
@[simp] theorem State.freeSlot_seq (i : Nat) : (s.freeSlot i).seq = s.seq := rfl
@[simp] theorem State.freeSlot_nextCmp (i : Nat) : (s.freeSlot i).nextCmp = s.nextCmp := rfl
@[simp] theorem State.freeSlot_cntLatch (i : Nat) : (s.freeSlot i).cntLatch = s.cntLatch := rfl
@[simp] theorem State.freeSlot_fault (i : Nat) : (s.freeSlot i).fault = s.fault := rfl
@[simp] theorem State.freeSlot_cnt (i : Nat) : (s.freeSlot i).cnt = s.cnt := rfl
@[simp] theorem State.freeSlot_cmp (i : Nat) : (s.freeSlot i).cmp = s.cmp := rfl
@[simp] theorem State.freeSlot_m (i : Nat) : (s.freeSlot i).m = s.m := rfl
@[simp] theorem State.freeSlot_port (i : Nat) : (s.freeSlot i).port = s.port := rfl
@[simp] theorem State.freeSlot_rsp (i : Nat) : (s.freeSlot i).rsp = s.rsp := rfl
@[simp] theorem State.freeSlot_events (i : Nat) : (s.freeSlot i).events = s.events := rfl
@[simp] theorem State.freeSlot_sched (i : Nat) : (s.freeSlot i).sched = s.sched := rfl
@[simp] theorem State.freeSlot_icAnswer (i : Nat) : (s.freeSlot i).icAnswer = s.icAnswer := rfl
@[simp] theorem State.freeSlot_fresh (i : Nat) : (s.freeSlot i).fresh = s.fresh := rfl

/-! ### latchNextCmp -/

@[simp] theorem State.latchNextCmp_cfg (v : U32) : (s.latchNextCmp v).cfg = s.cfg := rfl
@[simp] theorem State.latchNextCmp_ticks (v : U32) : (s.latchNextCmp v).ticks = s.ticks := rfl
@[simp] theorem State.latchNextCmp_secs (v : U32) : (s.latchNextCmp v).secs = s.secs := rfl
@[simp] theorem State.latchNextCmp_slots (v : U32) : (s.latchNextCmp v).slots = s.slots := rfl
@[simp] theorem State.latchNextCmp_inited (v : U32) : (s.latchNextCmp v).inited = s.inited := rfl
@[simp] theorem State.latchNextCmp_ie (v : U32) : (s.latchNextCmp v).ie = s.ie := rfl
@[simp] theorem State.latchNextCmp_seq (v : U32) : (s.latchNextCmp v).seq = s.seq := rfl
@[simp] theorem State.latchNextCmp_nextCmp (v : U32) : (s.latchNextCmp v).nextCmp = v := rfl
@[simp] theorem State.latchNextCmp_cntLatch (v : U32) : (s.latchNextCmp v).cntLatch = s.cntLatch := rfl
@[simp] theorem State.latchNextCmp_fault (v : U32) : (s.latchNextCmp v).fault = s.fault := rfl
@[simp] theorem State.latchNextCmp_cnt (v : U32) : (s.latchNextCmp v).cnt = s.cnt := rfl
@[simp] theorem State.latchNextCmp_cmp (v : U32) : (s.latchNextCmp v).cmp = s.cmp := rfl
@[simp] theorem State.latchNextCmp_m (v : U32) : (s.latchNextCmp v).m = s.m := rfl
@[simp] theorem State.latchNextCmp_port (v : U32) : (s.latchNextCmp v).port = s.port := rfl
@[simp] theorem State.latchNextCmp_rsp (v : U32) : (s.latchNextCmp v).rsp = s.rsp := rfl
@[simp] theorem State.latchNextCmp_events (v : U32) : (s.latchNextCmp v).events = s.events := rfl
@[simp] theorem State.latchNextCmp_sched (v : U32) : (s.latchNextCmp v).sched = s.sched := rfl
@[simp] theorem State.latchNextCmp_icAnswer (v : U32) : (s.latchNextCmp v).icAnswer = s.icAnswer := rfl
@[simp] theorem State.latchNextCmp_fresh (v : U32) : (s.latchNextCmp v).fresh = s.fresh := rfl

/-! ### latchCnt -/

@[simp] theorem State.latchCnt_cfg (v : U32) : (s.latchCnt v).cfg = s.cfg := rfl
@[simp] theorem State.latchCnt_ticks (v : U32) : (s.latchCnt v).ticks = s.ticks := rfl
@[simp] theorem State.latchCnt_secs (v : U32) : (s.latchCnt v).secs = s.secs := rfl
@[simp] theorem State.latchCnt_slots (v : U32) : (s.latchCnt v).slots = s.slots := rfl
@[simp] theorem State.latchCnt_inited (v : U32) : (s.latchCnt v).inited = s.inited := rfl
@[simp] theorem State.latchCnt_ie (v : U32) : (s.latchCnt v).ie = s.ie := rfl
@[simp] theorem State.latchCnt_seq (v : U32) : (s.latchCnt v).seq = s.seq := rfl
@[simp] theorem State.latchCnt_nextCmp (v : U32) : (s.latchCnt v).nextCmp = s.nextCmp := rfl
@[simp] theorem State.latchCnt_cntLatch (v : U32) : (s.latchCnt v).cntLatch = v := rfl
@[simp] theorem State.latchCnt_fault (v : U32) : (s.latchCnt v).fault = s.fault := rfl
@[simp] theorem State.latchCnt_cnt (v : U32) : (s.latchCnt v).cnt = s.cnt := rfl
@[simp] theorem State.latchCnt_cmp (v : U32) : (s.latchCnt v).cmp = s.cmp := rfl
@[simp] theorem State.latchCnt_m (v : U32) : (s.latchCnt v).m = s.m := rfl
@[simp] theorem State.latchCnt_port (v : U32) : (s.latchCnt v).port = s.port := rfl
@[simp] theorem State.latchCnt_rsp (v : U32) : (s.latchCnt v).rsp = s.rsp := rfl
@[simp] theorem State.latchCnt_events (v : U32) : (s.latchCnt v).events = s.events := rfl
@[simp] theorem State.latchCnt_sched (v : U32) : (s.latchCnt v).sched = s.sched := rfl
@[simp] theorem State.latchCnt_icAnswer (v : U32) : (s.latchCnt v).icAnswer = s.icAnswer := rfl
@[simp] theorem State.latchCnt_fresh (v : U32) : (s.latchCnt v).fresh = s.fresh := rfl

/-! ### enable -/

@[simp] theorem State.enable_cfg : (s.enable).cfg = s.cfg := rfl
@[simp] theorem State.enable_ticks : (s.enable).ticks = s.ticks := rfl
@[simp] theorem State.enable_secs : (s.enable).secs = s.secs := rfl
@[simp] theorem State.enable_slots : (s.enable).slots = s.slots := rfl
@[simp] theorem State.enable_inited : (s.enable).inited = true := rfl
@[simp] theorem State.enable_ie : (s.enable).ie = true := rfl
@[simp] theorem State.enable_seq : (s.enable).seq = s.seq := rfl
@[simp] theorem State.enable_nextCmp : (s.enable).nextCmp = s.nextCmp := rfl
@[simp] theorem State.enable_cntLatch : (s.enable).cntLatch = s.cntLatch := rfl
@[simp] theorem State.enable_fault : (s.enable).fault = s.fault := rfl
@[simp] theorem State.enable_cnt : (s.enable).cnt = s.cnt := rfl
@[simp] theorem State.enable_cmp : (s.enable).cmp = s.cmp := rfl
@[simp] theorem State.enable_m : (s.enable).m = s.m := rfl
@[simp] theorem State.enable_port : (s.enable).port = s.port := rfl
@[simp] theorem State.enable_rsp : (s.enable).rsp = s.rsp := rfl
@[simp] theorem State.enable_events : (s.enable).events = s.events := rfl
@[simp] theorem State.enable_sched : (s.enable).sched = s.sched := rfl
@[simp] theorem State.enable_icAnswer : (s.enable).icAnswer = s.icAnswer := rfl
@[simp] theorem State.enable_fresh : (s.enable).fresh = s.fresh := rfl

/-! ### raiseFault -/

@[simp] theorem State.raiseFault_cfg (code : FaultCode) : (s.raiseFault code).cfg = s.cfg := rfl
@[simp] theorem State.raiseFault_ticks (code : FaultCode) : (s.raiseFault code).ticks = s.ticks := rfl
@[simp] theorem State.raiseFault_secs (code : FaultCode) : (s.raiseFault code).secs = s.secs := rfl
@[simp] theorem State.raiseFault_slots (code : FaultCode) : (s.raiseFault code).slots = s.slots := rfl
@[simp] theorem State.raiseFault_inited (code : FaultCode) : (s.raiseFault code).inited = s.inited := rfl
@[simp] theorem State.raiseFault_ie (code : FaultCode) : (s.raiseFault code).ie = s.ie := rfl
@[simp] theorem State.raiseFault_seq (code : FaultCode) : (s.raiseFault code).seq = .halted := rfl
@[simp] theorem State.raiseFault_nextCmp (code : FaultCode) : (s.raiseFault code).nextCmp = s.nextCmp := rfl
@[simp] theorem State.raiseFault_cntLatch (code : FaultCode) : (s.raiseFault code).cntLatch = s.cntLatch := rfl
@[simp] theorem State.raiseFault_fault (code : FaultCode) : (s.raiseFault code).fault = s.fault ||| code.bit := rfl
@[simp] theorem State.raiseFault_cnt (code : FaultCode) : (s.raiseFault code).cnt = s.cnt := rfl
@[simp] theorem State.raiseFault_cmp (code : FaultCode) : (s.raiseFault code).cmp = s.cmp := rfl
@[simp] theorem State.raiseFault_m (code : FaultCode) : (s.raiseFault code).m = s.m := rfl
@[simp] theorem State.raiseFault_port (code : FaultCode) : (s.raiseFault code).port = s.port := rfl
@[simp] theorem State.raiseFault_rsp (code : FaultCode) : (s.raiseFault code).rsp = s.rsp := rfl
@[simp] theorem State.raiseFault_events (code : FaultCode) :
    (s.raiseFault code).events = s.events ++ [.fault code] := rfl
@[simp] theorem State.raiseFault_sched (code : FaultCode) : (s.raiseFault code).sched = s.sched := rfl
@[simp] theorem State.raiseFault_icAnswer (code : FaultCode) : (s.raiseFault code).icAnswer = s.icAnswer := rfl
@[simp] theorem State.raiseFault_fresh (code : FaultCode) : (s.raiseFault code).fresh = s.fresh := rfl

/-! ### enterTick -/

@[simp] theorem State.enterTick_cfg : (s.enterTick).cfg = s.cfg := rfl
@[simp] theorem State.enterTick_ticks : (s.enterTick).ticks = s.ticks := rfl
@[simp] theorem State.enterTick_secs : (s.enterTick).secs = s.secs := rfl
@[simp] theorem State.enterTick_slots : (s.enterTick).slots = s.slots := rfl
@[simp] theorem State.enterTick_inited : (s.enterTick).inited = s.inited := rfl
@[simp] theorem State.enterTick_ie : (s.enterTick).ie = s.ie := rfl
@[simp] theorem State.enterTick_seq : (s.enterTick).seq = .t2 := rfl
@[simp] theorem State.enterTick_nextCmp : (s.enterTick).nextCmp = s.nextCmp := rfl
@[simp] theorem State.enterTick_cntLatch : (s.enterTick).cntLatch = s.cntLatch := rfl
@[simp] theorem State.enterTick_fault : (s.enterTick).fault = s.fault := rfl
@[simp] theorem State.enterTick_cnt : (s.enterTick).cnt = s.cnt := rfl
@[simp] theorem State.enterTick_cmp : (s.enterTick).cmp = s.cmp := rfl
@[simp] theorem State.enterTick_m : (s.enterTick).m = s.m := rfl
@[simp] theorem State.enterTick_port : (s.enterTick).port = s.port := rfl
@[simp] theorem State.enterTick_rsp : (s.enterTick).rsp = s.rsp := rfl
@[simp] theorem State.enterTick_events : (s.enterTick).events = s.events := rfl
@[simp] theorem State.enterTick_sched : (s.enterTick).sched = s.sched := rfl
@[simp] theorem State.enterTick_icAnswer : (s.enterTick).icAnswer = s.icAnswer := rfl
@[simp] theorem State.enterTick_fresh : (s.enterTick).fresh = s.fresh := rfl

/-! ### leaveTick -/

@[simp] theorem State.leaveTick_cfg : (s.leaveTick).cfg = s.cfg := rfl
@[simp] theorem State.leaveTick_ticks : (s.leaveTick).ticks = s.ticks := rfl
@[simp] theorem State.leaveTick_secs : (s.leaveTick).secs = s.secs := rfl
@[simp] theorem State.leaveTick_slots : (s.leaveTick).slots = s.slots := rfl
@[simp] theorem State.leaveTick_inited : (s.leaveTick).inited = s.inited := rfl
@[simp] theorem State.leaveTick_ie : (s.leaveTick).ie = s.ie := rfl
@[simp] theorem State.leaveTick_seq : (s.leaveTick).seq = .idle := rfl
@[simp] theorem State.leaveTick_nextCmp : (s.leaveTick).nextCmp = s.nextCmp := rfl
@[simp] theorem State.leaveTick_cntLatch : (s.leaveTick).cntLatch = s.cntLatch := rfl
@[simp] theorem State.leaveTick_fault : (s.leaveTick).fault = s.fault := rfl
@[simp] theorem State.leaveTick_cnt : (s.leaveTick).cnt = s.cnt := rfl
@[simp] theorem State.leaveTick_cmp : (s.leaveTick).cmp = s.cmp := rfl
@[simp] theorem State.leaveTick_m : (s.leaveTick).m = s.m := rfl
@[simp] theorem State.leaveTick_port : (s.leaveTick).port = s.port := rfl
@[simp] theorem State.leaveTick_rsp : (s.leaveTick).rsp = s.rsp := rfl
@[simp] theorem State.leaveTick_events : (s.leaveTick).events = s.events := rfl
@[simp] theorem State.leaveTick_sched : (s.leaveTick).sched = s.sched := rfl
@[simp] theorem State.leaveTick_icAnswer : (s.leaveTick).icAnswer = s.icAnswer := rfl
@[simp] theorem State.leaveTick_fresh : (s.leaveTick).fresh = s.fresh := rfl

/-! ### fire -/

@[simp] theorem State.fire_cfg (i : Nat) : (s.fire i).cfg = s.cfg := rfl
@[simp] theorem State.fire_ticks (i : Nat) : (s.fire i).ticks = s.ticks := rfl
@[simp] theorem State.fire_secs (i : Nat) : (s.fire i).secs = s.secs := rfl
@[simp] theorem State.fire_slots (i : Nat) : (s.fire i).slots = s.slots.set i { s.slotAt i with handler := 0 } := rfl
@[simp] theorem State.fire_inited (i : Nat) : (s.fire i).inited = s.inited := rfl
@[simp] theorem State.fire_ie (i : Nat) : (s.fire i).ie = s.ie := rfl
@[simp] theorem State.fire_seq (i : Nat) : (s.fire i).seq = .cb i := rfl
@[simp] theorem State.fire_nextCmp (i : Nat) : (s.fire i).nextCmp = s.nextCmp := rfl
@[simp] theorem State.fire_cntLatch (i : Nat) : (s.fire i).cntLatch = s.cntLatch := rfl
@[simp] theorem State.fire_fault (i : Nat) : (s.fire i).fault = s.fault := rfl
@[simp] theorem State.fire_cnt (i : Nat) : (s.fire i).cnt = s.cnt := rfl
@[simp] theorem State.fire_cmp (i : Nat) : (s.fire i).cmp = s.cmp := rfl
@[simp] theorem State.fire_m (i : Nat) : (s.fire i).m = s.m := rfl
@[simp] theorem State.fire_port (i : Nat) : (s.fire i).port = s.port := rfl
@[simp] theorem State.fire_rsp (i : Nat) : (s.fire i).rsp = s.rsp := rfl
@[simp] theorem State.fire_events (i : Nat) :
    (s.fire i).events = s.events ++ [.fire (handleOfSlot i) (s.slotAt i).handler (s.slotAt i).param (s.slotAt i).context] := rfl
@[simp] theorem State.fire_sched (i : Nat) : (s.fire i).sched = s.sched := rfl
@[simp] theorem State.fire_icAnswer (i : Nat) : (s.fire i).icAnswer = s.icAnswer := rfl
@[simp] theorem State.fire_fresh (i : Nat) : (s.fire i).fresh = s.fresh := rfl

/-! ### leaveCallback -/

@[simp] theorem State.leaveCallback_cfg (i : Nat) : (s.leaveCallback i).cfg = s.cfg := rfl
@[simp] theorem State.leaveCallback_ticks (i : Nat) : (s.leaveCallback i).ticks = s.ticks := rfl
@[simp] theorem State.leaveCallback_secs (i : Nat) : (s.leaveCallback i).secs = s.secs := rfl
@[simp] theorem State.leaveCallback_slots (i : Nat) : (s.leaveCallback i).slots = s.slots := rfl
@[simp] theorem State.leaveCallback_inited (i : Nat) : (s.leaveCallback i).inited = s.inited := rfl
@[simp] theorem State.leaveCallback_ie (i : Nat) : (s.leaveCallback i).ie = s.ie := rfl
@[simp] theorem State.leaveCallback_seq (i : Nat) : (s.leaveCallback i).seq = .scan (i + 1) := rfl
@[simp] theorem State.leaveCallback_nextCmp (i : Nat) : (s.leaveCallback i).nextCmp = s.nextCmp := rfl
@[simp] theorem State.leaveCallback_cntLatch (i : Nat) : (s.leaveCallback i).cntLatch = s.cntLatch := rfl
@[simp] theorem State.leaveCallback_fault (i : Nat) : (s.leaveCallback i).fault = s.fault := rfl
@[simp] theorem State.leaveCallback_cnt (i : Nat) : (s.leaveCallback i).cnt = s.cnt := rfl
@[simp] theorem State.leaveCallback_cmp (i : Nat) : (s.leaveCallback i).cmp = s.cmp := rfl
@[simp] theorem State.leaveCallback_m (i : Nat) : (s.leaveCallback i).m = s.m := rfl
@[simp] theorem State.leaveCallback_port (i : Nat) : (s.leaveCallback i).port = s.port := rfl
@[simp] theorem State.leaveCallback_rsp (i : Nat) : (s.leaveCallback i).rsp = s.rsp := rfl
@[simp] theorem State.leaveCallback_events (i : Nat) : (s.leaveCallback i).events = s.events := rfl
@[simp] theorem State.leaveCallback_sched (i : Nat) : (s.leaveCallback i).sched = s.sched := rfl
@[simp] theorem State.leaveCallback_icAnswer (i : Nat) : (s.leaveCallback i).icAnswer = s.icAnswer := rfl
@[simp] theorem State.leaveCallback_fresh (i : Nat) : (s.leaveCallback i).fresh = s.fresh := rfl

/-! ### beginCommand -/

@[simp] theorem State.beginCommand_cfg : (s.beginCommand).cfg = s.cfg := rfl
@[simp] theorem State.beginCommand_ticks : (s.beginCommand).ticks = s.ticks := rfl
@[simp] theorem State.beginCommand_secs : (s.beginCommand).secs = s.secs := rfl
@[simp] theorem State.beginCommand_slots : (s.beginCommand).slots = s.slots := rfl
@[simp] theorem State.beginCommand_inited : (s.beginCommand).inited = s.inited := rfl
@[simp] theorem State.beginCommand_ie : (s.beginCommand).ie = s.ie := rfl
@[simp] theorem State.beginCommand_seq : (s.beginCommand).seq = s.seq := rfl
@[simp] theorem State.beginCommand_nextCmp : (s.beginCommand).nextCmp = s.nextCmp := rfl
@[simp] theorem State.beginCommand_cntLatch : (s.beginCommand).cntLatch = s.cntLatch := rfl
@[simp] theorem State.beginCommand_fault : (s.beginCommand).fault = s.fault := rfl
@[simp] theorem State.beginCommand_cnt : (s.beginCommand).cnt = s.cnt := rfl
@[simp] theorem State.beginCommand_cmp : (s.beginCommand).cmp = s.cmp := rfl
@[simp] theorem State.beginCommand_m : (s.beginCommand).m = s.m := rfl
@[simp] theorem State.beginCommand_port : (s.beginCommand).port = none := rfl
@[simp] theorem State.beginCommand_rsp : (s.beginCommand).rsp = .undriven := rfl
@[simp] theorem State.beginCommand_events : (s.beginCommand).events = s.events := rfl
@[simp] theorem State.beginCommand_sched : (s.beginCommand).sched = s.sched := rfl
@[simp] theorem State.beginCommand_icAnswer : (s.beginCommand).icAnswer = s.icAnswer := rfl
@[simp] theorem State.beginCommand_fresh : (s.beginCommand).fresh = s.fresh := rfl

/-! ### dropIcAnswer -/

@[simp] theorem State.dropIcAnswer_cfg : (s.dropIcAnswer).cfg = s.cfg := rfl
@[simp] theorem State.dropIcAnswer_ticks : (s.dropIcAnswer).ticks = s.ticks := rfl
@[simp] theorem State.dropIcAnswer_secs : (s.dropIcAnswer).secs = s.secs := rfl
@[simp] theorem State.dropIcAnswer_slots : (s.dropIcAnswer).slots = s.slots := rfl
@[simp] theorem State.dropIcAnswer_inited : (s.dropIcAnswer).inited = s.inited := rfl
@[simp] theorem State.dropIcAnswer_ie : (s.dropIcAnswer).ie = s.ie := rfl
@[simp] theorem State.dropIcAnswer_seq : (s.dropIcAnswer).seq = s.seq := rfl
@[simp] theorem State.dropIcAnswer_nextCmp : (s.dropIcAnswer).nextCmp = s.nextCmp := rfl
@[simp] theorem State.dropIcAnswer_cntLatch : (s.dropIcAnswer).cntLatch = s.cntLatch := rfl
@[simp] theorem State.dropIcAnswer_fault : (s.dropIcAnswer).fault = s.fault := rfl
@[simp] theorem State.dropIcAnswer_cnt : (s.dropIcAnswer).cnt = s.cnt := rfl
@[simp] theorem State.dropIcAnswer_cmp : (s.dropIcAnswer).cmp = s.cmp := rfl
@[simp] theorem State.dropIcAnswer_m : (s.dropIcAnswer).m = s.m := rfl
@[simp] theorem State.dropIcAnswer_port : (s.dropIcAnswer).port = s.port := rfl
@[simp] theorem State.dropIcAnswer_rsp : (s.dropIcAnswer).rsp = s.rsp := rfl
@[simp] theorem State.dropIcAnswer_events : (s.dropIcAnswer).events = s.events := rfl
@[simp] theorem State.dropIcAnswer_sched : (s.dropIcAnswer).sched = s.sched := rfl
@[simp] theorem State.dropIcAnswer_icAnswer : (s.dropIcAnswer).icAnswer = none := rfl
@[simp] theorem State.dropIcAnswer_fresh :
    (s.dropIcAnswer).fresh = if s.icAnswer.isSome then s.fresh else s.fresh + 1 := rfl

/-! ### advanceClock -/

@[simp] theorem State.advanceClock_cfg : (s.advanceClock).cfg = s.cfg := rfl
@[simp] theorem State.advanceClock_ticks : (s.advanceClock).ticks = s.ticks + 1 := rfl
@[simp] theorem State.advanceClock_secs :
    (s.advanceClock).secs = if onSecond s.cfg.hz (s.ticks + 1) then s.secs + 1 else s.secs := rfl
@[simp] theorem State.advanceClock_slots : (s.advanceClock).slots = s.slots := rfl
@[simp] theorem State.advanceClock_inited : (s.advanceClock).inited = s.inited := rfl
@[simp] theorem State.advanceClock_ie : (s.advanceClock).ie = s.ie := rfl
@[simp] theorem State.advanceClock_seq : (s.advanceClock).seq = s.seq := rfl
@[simp] theorem State.advanceClock_nextCmp : (s.advanceClock).nextCmp = s.nextCmp := rfl
@[simp] theorem State.advanceClock_cntLatch : (s.advanceClock).cntLatch = s.cntLatch := rfl
@[simp] theorem State.advanceClock_fault : (s.advanceClock).fault = s.fault := rfl
@[simp] theorem State.advanceClock_cnt : (s.advanceClock).cnt = s.cnt := rfl
@[simp] theorem State.advanceClock_cmp : (s.advanceClock).cmp = s.cmp := rfl
@[simp] theorem State.advanceClock_m : (s.advanceClock).m = s.m := rfl
@[simp] theorem State.advanceClock_port : (s.advanceClock).port = s.port := rfl
@[simp] theorem State.advanceClock_rsp : (s.advanceClock).rsp = s.rsp := rfl
@[simp] theorem State.advanceClock_events : (s.advanceClock).events = s.events := rfl
@[simp] theorem State.advanceClock_sched : (s.advanceClock).sched = s.sched := rfl
@[simp] theorem State.advanceClock_icAnswer : (s.advanceClock).icAnswer = s.icAnswer := rfl
@[simp] theorem State.advanceClock_fresh : (s.advanceClock).fresh = s.fresh := rfl

/-! ### clockAdvance -/

@[simp] theorem State.clockAdvance_cfg : (s.clockAdvance).cfg = s.cfg := rfl
@[simp] theorem State.clockAdvance_ticks : (s.clockAdvance).ticks = s.ticks := rfl
@[simp] theorem State.clockAdvance_secs : (s.clockAdvance).secs = s.secs := rfl
@[simp] theorem State.clockAdvance_slots : (s.clockAdvance).slots = s.slots := rfl
@[simp] theorem State.clockAdvance_inited : (s.clockAdvance).inited = s.inited := rfl
@[simp] theorem State.clockAdvance_ie : (s.clockAdvance).ie = s.ie := rfl
@[simp] theorem State.clockAdvance_seq : (s.clockAdvance).seq = s.seq := rfl
@[simp] theorem State.clockAdvance_nextCmp : (s.clockAdvance).nextCmp = s.nextCmp := rfl
@[simp] theorem State.clockAdvance_cntLatch : (s.clockAdvance).cntLatch = s.cntLatch := rfl
@[simp] theorem State.clockAdvance_fault : (s.clockAdvance).fault = s.fault := rfl
@[simp] theorem State.clockAdvance_cnt : (s.clockAdvance).cnt = s.cnt + 1 := rfl
@[simp] theorem State.clockAdvance_cmp : (s.clockAdvance).cmp = s.cmp := rfl
@[simp] theorem State.clockAdvance_m : (s.clockAdvance).m = (s.m || s.cnt + 1 == s.cmp) := rfl
@[simp] theorem State.clockAdvance_port : (s.clockAdvance).port = s.port := rfl
@[simp] theorem State.clockAdvance_rsp : (s.clockAdvance).rsp = s.rsp := rfl
@[simp] theorem State.clockAdvance_events : (s.clockAdvance).events = s.events := rfl
@[simp] theorem State.clockAdvance_sched : (s.clockAdvance).sched = s.sched := rfl
@[simp] theorem State.clockAdvance_icAnswer : (s.clockAdvance).icAnswer = s.icAnswer := rfl
@[simp] theorem State.clockAdvance_fresh : (s.clockAdvance).fresh = s.fresh := rfl

/-! ### hostPresents -/

@[simp] theorem State.hostPresents_cfg (tx : Transaction) : (s.hostPresents tx).cfg = s.cfg := rfl
@[simp] theorem State.hostPresents_ticks (tx : Transaction) : (s.hostPresents tx).ticks = s.ticks := rfl
@[simp] theorem State.hostPresents_secs (tx : Transaction) : (s.hostPresents tx).secs = s.secs := rfl
@[simp] theorem State.hostPresents_slots (tx : Transaction) : (s.hostPresents tx).slots = s.slots := rfl
@[simp] theorem State.hostPresents_inited (tx : Transaction) : (s.hostPresents tx).inited = s.inited := rfl
@[simp] theorem State.hostPresents_ie (tx : Transaction) : (s.hostPresents tx).ie = s.ie := rfl
@[simp] theorem State.hostPresents_seq (tx : Transaction) : (s.hostPresents tx).seq = s.seq := rfl
@[simp] theorem State.hostPresents_nextCmp (tx : Transaction) : (s.hostPresents tx).nextCmp = s.nextCmp := rfl
@[simp] theorem State.hostPresents_cntLatch (tx : Transaction) : (s.hostPresents tx).cntLatch = s.cntLatch := rfl
@[simp] theorem State.hostPresents_fault (tx : Transaction) : (s.hostPresents tx).fault = s.fault := rfl
@[simp] theorem State.hostPresents_cnt (tx : Transaction) : (s.hostPresents tx).cnt = s.cnt := rfl
@[simp] theorem State.hostPresents_cmp (tx : Transaction) : (s.hostPresents tx).cmp = s.cmp := rfl
@[simp] theorem State.hostPresents_m (tx : Transaction) : (s.hostPresents tx).m = s.m := rfl
@[simp] theorem State.hostPresents_port (tx : Transaction) :
    (s.hostPresents tx).port = some (s.port.getD (tx.onWires s.cfg.refW)) := rfl
@[simp] theorem State.hostPresents_rsp (tx : Transaction) : (s.hostPresents tx).rsp = s.rsp := rfl
@[simp] theorem State.hostPresents_events (tx : Transaction) : (s.hostPresents tx).events = s.events := rfl
@[simp] theorem State.hostPresents_sched (tx : Transaction) : (s.hostPresents tx).sched = s.sched := rfl
@[simp] theorem State.hostPresents_icAnswer (tx : Transaction) : (s.hostPresents tx).icAnswer = s.icAnswer := rfl
@[simp] theorem State.hostPresents_fresh (tx : Transaction) : (s.hostPresents tx).fresh = s.fresh := rfl

/-! ### icSettles -/

@[simp] theorem State.icSettles_cfg (accept : Bool) : (s.icSettles accept).cfg = s.cfg := rfl
@[simp] theorem State.icSettles_ticks (accept : Bool) : (s.icSettles accept).ticks = s.ticks := rfl
@[simp] theorem State.icSettles_secs (accept : Bool) : (s.icSettles accept).secs = s.secs := rfl
@[simp] theorem State.icSettles_slots (accept : Bool) : (s.icSettles accept).slots = s.slots := rfl
@[simp] theorem State.icSettles_inited (accept : Bool) : (s.icSettles accept).inited = s.inited := rfl
@[simp] theorem State.icSettles_ie (accept : Bool) : (s.icSettles accept).ie = s.ie := rfl
@[simp] theorem State.icSettles_seq (accept : Bool) : (s.icSettles accept).seq = s.seq := rfl
@[simp] theorem State.icSettles_nextCmp (accept : Bool) : (s.icSettles accept).nextCmp = s.nextCmp := rfl
@[simp] theorem State.icSettles_cntLatch (accept : Bool) : (s.icSettles accept).cntLatch = s.cntLatch := rfl
@[simp] theorem State.icSettles_fault (accept : Bool) : (s.icSettles accept).fault = s.fault := rfl
@[simp] theorem State.icSettles_cnt (accept : Bool) : (s.icSettles accept).cnt = s.cnt := rfl
@[simp] theorem State.icSettles_cmp (accept : Bool) : (s.icSettles accept).cmp = s.cmp := rfl
@[simp] theorem State.icSettles_m (accept : Bool) : (s.icSettles accept).m = s.m := rfl
@[simp] theorem State.icSettles_port (accept : Bool) : (s.icSettles accept).port = s.port := rfl
@[simp] theorem State.icSettles_rsp (accept : Bool) : (s.icSettles accept).rsp = s.rsp := rfl
@[simp] theorem State.icSettles_events (accept : Bool) : (s.icSettles accept).events = s.events := rfl
@[simp] theorem State.icSettles_sched (accept : Bool) : (s.icSettles accept).sched = s.sched := rfl
@[simp] theorem State.icSettles_icAnswer (accept : Bool) : (s.icSettles accept).icAnswer = some accept := rfl
@[simp] theorem State.icSettles_fresh (accept : Bool) : (s.icSettles accept).fresh = s.fresh := rfl

/-! ### dropTurn -/

@[simp] theorem State.dropTurn_cfg : (s.dropTurn).cfg = s.cfg := rfl
@[simp] theorem State.dropTurn_ticks : (s.dropTurn).ticks = s.ticks := rfl
@[simp] theorem State.dropTurn_secs : (s.dropTurn).secs = s.secs := rfl
@[simp] theorem State.dropTurn_slots : (s.dropTurn).slots = s.slots := rfl
@[simp] theorem State.dropTurn_inited : (s.dropTurn).inited = s.inited := rfl
@[simp] theorem State.dropTurn_ie : (s.dropTurn).ie = s.ie := rfl
@[simp] theorem State.dropTurn_seq : (s.dropTurn).seq = s.seq := rfl
@[simp] theorem State.dropTurn_nextCmp : (s.dropTurn).nextCmp = s.nextCmp := rfl
@[simp] theorem State.dropTurn_cntLatch : (s.dropTurn).cntLatch = s.cntLatch := rfl
@[simp] theorem State.dropTurn_fault : (s.dropTurn).fault = s.fault := rfl
@[simp] theorem State.dropTurn_cnt : (s.dropTurn).cnt = s.cnt := rfl
@[simp] theorem State.dropTurn_cmp : (s.dropTurn).cmp = s.cmp := rfl
@[simp] theorem State.dropTurn_m : (s.dropTurn).m = s.m := rfl
@[simp] theorem State.dropTurn_port : (s.dropTurn).port = s.port := rfl
@[simp] theorem State.dropTurn_rsp : (s.dropTurn).rsp = s.rsp := rfl
@[simp] theorem State.dropTurn_events : (s.dropTurn).events = s.events := rfl
@[simp] theorem State.dropTurn_sched : (s.dropTurn).sched = s.sched.tail := rfl
@[simp] theorem State.dropTurn_icAnswer : (s.dropTurn).icAnswer = s.icAnswer := rfl
@[simp] theorem State.dropTurn_fresh : (s.dropTurn).fresh = if s.sched.isEmpty then s.fresh + 1 else s.fresh := rfl

/-! ### applyReset -/

@[simp] theorem State.applyReset_cfg (d : ResetDraws) : (s.applyReset d).cfg = s.cfg := rfl
@[simp] theorem State.applyReset_ticks (d : ResetDraws) : (s.applyReset d).ticks = 0 := rfl
@[simp] theorem State.applyReset_secs (d : ResetDraws) : (s.applyReset d).secs = 0 := rfl
@[simp] theorem State.applyReset_slots (d : ResetDraws) : (s.applyReset d).slots = slotsAtReset s.cfg d.stale := rfl
@[simp] theorem State.applyReset_inited (d : ResetDraws) : (s.applyReset d).inited = false := rfl
@[simp] theorem State.applyReset_ie (d : ResetDraws) : (s.applyReset d).ie = false := rfl
@[simp] theorem State.applyReset_seq (d : ResetDraws) : (s.applyReset d).seq = .idle := rfl
@[simp] theorem State.applyReset_nextCmp (d : ResetDraws) : (s.applyReset d).nextCmp = d.nextCmp := rfl
@[simp] theorem State.applyReset_cntLatch (d : ResetDraws) : (s.applyReset d).cntLatch = d.cntLatch := rfl
@[simp] theorem State.applyReset_fault (d : ResetDraws) : (s.applyReset d).fault = 0 := rfl
@[simp] theorem State.applyReset_cnt (d : ResetDraws) : (s.applyReset d).cnt = d.cnt := rfl
@[simp] theorem State.applyReset_cmp (d : ResetDraws) : (s.applyReset d).cmp = d.cmp := rfl
@[simp] theorem State.applyReset_m (d : ResetDraws) : (s.applyReset d).m = d.m := rfl
@[simp] theorem State.applyReset_port (d : ResetDraws) : (s.applyReset d).port = s.port := rfl
@[simp] theorem State.applyReset_rsp (d : ResetDraws) : (s.applyReset d).rsp = s.rsp := rfl
@[simp] theorem State.applyReset_events (d : ResetDraws) : (s.applyReset d).events = s.events := rfl
@[simp] theorem State.applyReset_sched (d : ResetDraws) : (s.applyReset d).sched = s.sched := rfl
@[simp] theorem State.applyReset_icAnswer (d : ResetDraws) : (s.applyReset d).icAnswer = s.icAnswer := rfl
@[simp] theorem State.applyReset_fresh (d : ResetDraws) : (s.applyReset d).fresh = s.fresh := rfl

end Sys2Proof.Machine
end

