-- ==== Sys2Proof/Laws/Ops.lean ====
section
/-!
SUPPORT. What each shared operation can do, said once: the clock primitives, slot access, the first-free search, taking a
command or a sequencer step, a turn, and a step.
-/

namespace Sys2Proof.Machine

open Sys2Proof

/-! ## Clock primitives -/

@[simp] theorem memRead_clkCnt (s : State) : s.memRead .clkCnt = s.cnt := rfl
@[simp] theorem memRead_clkCmp (s : State) : s.memRead .clkCmp = s.cmp := rfl
@[simp] theorem readStatus_eq (s : State) : s.readStatus = s.m := rfl

/-- A write of the compare register is read back, and the counter is untouched (R60 to R62). -/
theorem memRead_memWriteCmp (s : State) (v : U32) (r : ClkReg) :
    (s.memWriteCmp v).memRead r = match r with | .clkCnt => s.cnt | .clkCmp => v := by
  cases r <;> rfl

theorem readStatus_ackStatus (s : State) : s.ackStatus.readStatus = false := rfl

/-! ## Fault bits -/

/-- The FAULT bits of R202's table. -/
theorem faultCode_bit (code : FaultCode) : code.bit = match code with
    | .irqRegister => 0b000001#6
    | .spuriousIrq => 0b000010#6
    | .nullHandler => 0b000100#6
    | .badHandle => 0b001000#6
    | .illegalCmd => 0b010000#6
    | .badContext => 0b100000#6 := by
  cases code <;> rfl

/-! ## Slots -/

@[simp] theorem Slot.zero_occupied : Slot.zero.occupied = false := rfl

theorem slotAt_setSlot (s : State) (i j : Nat) (slot : Slot) :
    (s.setSlot i slot).slotAt j = if i = j ∧ j < s.slots.length then slot else s.slotAt j := by
  simp only [State.slotAt, State.setSlot, List.getD_eq_getElem?_getD, List.getElem?_set]
  by_cases h : i = j
  · subst h
    by_cases hl : i < s.slots.length <;> simp [hl]
  · simp [h]

theorem slotAt_of_length_le (s : State) (i : Nat) (h : s.slots.length ≤ i) : s.slotAt i = Slot.zero := by
  simp [State.slotAt, List.getD_eq_getElem?_getD, h]

theorem slotAt_eq_getElem (s : State) (i : Nat) (h : i < s.slots.length) : s.slotAt i = s.slots[i] := by
  simp [State.slotAt, List.getD_eq_getElem?_getD, h]

theorem slotAt_freeSlot (s : State) (i j : Nat) :
    (s.freeSlot i).slotAt j = if i = j then { s.slotAt j with handler := 0 } else s.slotAt j := by
  simp only [State.freeSlot, slotAt_setSlot]
  by_cases h : i = j
  · subst h
    by_cases hl : i < s.slots.length
    · simp [hl]
    · simp [hl, slotAt_of_length_le s i (by omega), Slot.zero]
  · simp [h]

/-- A free slot is never due (R161). -/
theorem not_due_of_free (slot : Slot) (t : U32) (h : slot.occupied = false) : slot.due t = false := by
  simp [Slot.due, h]

/-! ## The first-free search -/

/-- The search answers the least free index, if there is one (R141). -/
theorem firstFreeFrom_some {l : List Slot} {i j : Nat} (h : firstFreeFrom i l = some j) :
    i ≤ j ∧ j - i < l.length ∧ (l.getD (j - i) Slot.zero).handler = 0 ∧
      ∀ n < j - i, (l.getD n Slot.zero).handler ≠ 0 := by
  induction l generalizing i with
  | nil => simp [firstFreeFrom] at h
  | cons slot rest ih =>
    simp only [firstFreeFrom, beq_iff_eq] at h
    split at h
    · next hz =>
      obtain rfl := Option.some.inj h
      simp [hz]
    · next hz =>
      obtain ⟨h1, h2, h3, h4⟩ := ih h
      have e : j - i = (j - (i + 1)) + 1 := by omega
      refine ⟨by omega, by simp only [List.length_cons]; omega, by rw [e]; simpa using h3, ?_⟩
      intro n hn
      cases n with
      | zero => simpa using hz
      | succ n => simpa using h4 n (by omega)

/-- The search answers none exactly if every slot is occupied (R141). -/
theorem firstFreeFrom_none {l : List Slot} {i : Nat} (h : firstFreeFrom i l = none) :
    ∀ slot ∈ l, slot.handler ≠ 0 := by
  induction l generalizing i with
  | nil => simp
  | cons slot rest ih =>
    simp only [firstFreeFrom, beq_iff_eq] at h
    split at h
    · simp at h
    · next hz => exact List.forall_mem_cons.mpr ⟨hz, ih h⟩

theorem firstFree_some {s : State} {j : Nat} (h : s.firstFree = some j) :
    j < s.slots.length ∧ (s.slotAt j).handler = 0 ∧ ∀ n < j, (s.slotAt n).handler ≠ 0 := by
  obtain ⟨-, h2, h3, h4⟩ := firstFreeFrom_some h
  exact ⟨by simpa using h2, by simpa [State.slotAt] using h3, fun n hn => h4 n (by simpa using hn)⟩

theorem firstFree_none {s : State} (h : s.firstFree = none) (i : Nat) (hi : i < s.slots.length) :
    (s.slotAt i).handler ≠ 0 := by
  rw [slotAt_eq_getElem s i hi]
  exact firstFreeFrom_none h _ (List.getElem_mem hi)

/-! ## Commands, sequencer steps, turns, steps -/

theorem takeCommand_next {s t : State} {f : State → State} (h : takeCommand s f = .next t) :
    (s.seq.accepts = true ∧ t = f s.beginCommand) ∨ (s.seq.accepts = false ∧ t = s) := by
  have e := (Host.Outcome.next.inj h).symm
  cases ha : s.seq.accepts
  · exact .inr ⟨rfl, by simpa [ha] using e⟩
  · exact .inl ⟨rfl, by simpa [ha] using e⟩

theorem takeCommand_accepted {s : State} {f : State → State} (h : s.seq.accepts = true) :
    takeCommand s f = .next (f s.beginCommand) := by simp [takeCommand, h]

theorem takeCommand_held {s : State} {f : State → State} (h : s.seq.accepts = false) :
    takeCommand s f = .next s := by simp [takeCommand, h]

theorem takeInternal_next {b : Bool} {s t : State} {f : State → State} (h : takeInternal b s f = .next t) :
    (b = true ∧ t = f s) ∨ (b = false ∧ t = s) := by
  have e := (Host.Outcome.next.inj h).symm
  cases b
  · exact .inr ⟨rfl, by simpa using e⟩
  · exact .inl ⟨rfl, by simpa using e⟩

theorem takeInternal_enabled {s : State} {f : State → State} : takeInternal true s f = .next (f s) := rfl

/-- What one turn can do, from the answer back to the acts of R2 and R240. -/
theorem takeTurn_next {u : Turn} {s t : State} (h : takeTurn u s = .next t) :
    (u = .clock ∧ t = s.clockAdvance) ∨
    (u = .block ∧ ∃ i, s.internalStep = some i ∧ exec i s = .next t) ∨
    (u = .block ∧ s.internalStep = none ∧ t = s) ∨
    (u = .command ∧ ∃ tx, s.port = some tx ∧ exec (decode tx) s = .next t) ∨
    (u = .command ∧ s.port = none ∧ t = s) ∨
    (∃ tx, u = .present tx ∧ t = s.hostPresents tx) ∨
    (∃ a, u = .icAnswer a ∧ t = s.icSettles a) ∨
    (∃ d, u = .reset d ∧ t = s.applyReset d) := by
  cases u with
  | clock => exact .inl ⟨rfl, (Host.Outcome.next.inj h).symm⟩
  | block =>
    simp only [takeTurn] at h
    split at h
    · next i hi => exact .inr (.inl ⟨rfl, i, hi, h⟩)
    · next hi => exact .inr (.inr (.inl ⟨rfl, hi, (Host.Outcome.next.inj h).symm⟩))
  | command =>
    simp only [takeTurn] at h
    split at h
    · next tx hp => exact .inr (.inr (.inr (.inl ⟨rfl, tx, hp, h⟩)))
    · next hp => exact .inr (.inr (.inr (.inr (.inl ⟨rfl, hp, (Host.Outcome.next.inj h).symm⟩))))
  | present tx => exact .inr (.inr (.inr (.inr (.inr (.inl ⟨tx, rfl, (Host.Outcome.next.inj h).symm⟩)))))
  | icAnswer a => exact .inr (.inr (.inr (.inr (.inr (.inr (.inl ⟨a, rfl, (Host.Outcome.next.inj h).symm⟩))))))
  | reset d => exact .inr (.inr (.inr (.inr (.inr (.inr (.inr ⟨d, rfl, (Host.Outcome.next.inj h).symm⟩))))))

/-- A step is a turn of an admitted configuration. -/
theorem step_next {s t : State} (h : step s = .next t) :
    s.cfg.admitted = true ∧ takeTurn s.nextTurn s.dropTurn = .next t := by
  unfold step at h
  split at h
  · next ha => exact ⟨ha, h⟩
  · exact absurd h (by simp)

theorem step_of_admitted {s : State} (h : s.cfg.admitted = true) : step s = takeTurn s.nextTurn s.dropTurn := by
  simp [step, h]

@[simp] theorem nextTurn_of_sched {s : State} {u : Turn} {rest : List Turn} (h : s.sched = u :: rest) :
    s.nextTurn = u := by simp [State.nextTurn, h]

theorem dropTurn_of_sched {s : State} {u : Turn} {rest : List Turn} (h : s.sched = u :: rest) :
    s.dropTurn = { s with sched := rest } := by simp [State.dropTurn, h]

end Sys2Proof.Machine
end

