-- ==== Sys2Proof/Laws/Predicates.lean ====
section
/-!
SUPPORT. What each computed test says, once: configurations, legal words, the late test, the comparator, handle ranges,
acceptance, and which states enable T1.
-/

namespace Sys2Proof

theorem admitted_iff (c : Config) : c.admitted = true ↔
    1 ≤ c.clockHz ∧ 1 ≤ c.hz ∧ c.hz ≤ c.clockHz ∧ c.clockHz / c.hz ≤ 2 ^ 31 - 1 ∧ 1 ≤ c.k ∧ c.k ≤ 2 ^ 32 - 1 ∧
      1 ≤ c.refW := by
  simp only [Config.admitted, Bool.and_eq_true, decide_eq_true_eq, and_assoc]
  rfl

/-- R6's reason for HZ <= CLOCKHZ: TPI is at least 1. -/
theorem one_le_tpi {c : Config} (h : c.admitted = true) : 1 ≤ c.clockHz / c.hz :=
  have h' := (admitted_iff c).mp h
  Nat.div_pos h'.2.2.1 h'.2.1

theorem wordIsLegal_iff (cw : U32) : wordIsLegal cw = true ↔
    cwRsv cw = 0#28 ∧ cwOp cw ≠ 0#4 ∧ (cwOp cw).toNat < 9 := by
  simp only [wordIsLegal, Bool.and_eq_true, beq_iff_eq, Bool.not_eq_true', beq_eq_false_iff_ne, decide_eq_true_eq,
    and_assoc]

/-- The two readings of R83 agree: the fields of R81, and the whole word as a number. -/
theorem wordIsLegal_iff_legalWord (cw : U32) : wordIsLegal cw = legalWord cw := by
  have hr : (cwRsv cw).toNat = cw.toNat / 16 := by
    have := cw.isLt
    simp only [cwRsv, BitVec.extractLsb'_toNat, Nat.shiftRight_eq_div_pow]
    omega
  have ho : (cwOp cw).toNat = cw.toNat % 16 := by
    simp [cwOp, BitVec.extractLsb'_toNat]
  rw [Bool.eq_iff_iff, wordIsLegal_iff, legalWord, Bool.and_eq_true, decide_eq_true_eq, decide_eq_true_eq, ne_eq,
    ← BitVec.toNat_inj, ← BitVec.toNat_inj, hr, ho]
  simp only [BitVec.toNat_ofNat, Nat.zero_mod]
  omega

namespace Machine

theorem late_signedLE (n c : U32) : late .signedLE n c = true ↔ (n - c).toInt ≤ 0 := by
  simp only [late, decide_eq_true_eq]
  rfl

theorem late_unsignedLT (n c : U32) : late .unsignedLT n c = true ↔ n.toNat < c.toNat := by
  simp only [late, decide_eq_true_eq]

theorem onSecond_iff (hz : Nat) (ticks : U32) : onSecond hz ticks = true ↔ ticks.toNat % hz = 0 := by
  simp only [onSecond, beq_iff_eq]

theorem occupied_iff (slot : Slot) : slot.occupied = true ↔ slot.handler ≠ 0 := by
  simp only [Slot.occupied, Bool.not_eq_true', beq_eq_false_iff_ne]

theorem due_iff (slot : Slot) (t : U32) :
    slot.due t = true ↔ slot.handler ≠ 0 ∧ (slot.deadline - t).toInt ≤ 0 := by
  simp only [Slot.due, Bool.and_eq_true, occupied_iff, decide_eq_true_eq]
  rfl

theorem handleInRange_iff (s : State) (handle : U32) :
    s.handleInRange handle = true ↔ 1 ≤ handle.toNat ∧ handle.toNat ≤ s.cfg.k := by
  simp only [State.handleInRange, Bool.and_eq_true, decide_eq_true_eq]

theorem accepts_iff (q : Seq) : q.accepts = true ↔ q = .idle ∨ ∃ i, q = .cb i := by
  cases q <;> simp [Seq.accepts]

theorem t1Enabled_iff (s : State) : s.t1Enabled = true ↔
    s.seq = .idle ∧ s.ie = true ∧ (s.m = true ∨ s.cfg.spuriousIrq = true) := by
  simp only [State.t1Enabled, State.readStatus, Bool.and_eq_true, Bool.or_eq_true, beq_iff_eq, and_assoc]

end Machine

end Sys2Proof
end

