-- ==== Sys2Proof/Laws/Meanings.lean ====
section
/-!
SUPPORT. What each meaning can answer, said once: from "it answers next t", the named update that made t and the condition
it was made under. Every frame and invariant is proved from these, none by unfolding a meaning again.
-/

namespace Sys2Proof.Machine

open Sys2Proof

theorem execT1_next {s t : State} (h : execT1 s = .next t) :
    (s.t1Enabled = true ∧ s.m = true ∧ t = s.enterTick) ∨
    (s.t1Enabled = true ∧ s.m = false ∧ t = s.raiseFault .spuriousIrq) ∨ (s.t1Enabled = false ∧ t = s) := by
  rcases takeInternal_next h with ⟨he, rfl⟩ | ⟨he, rfl⟩
  · cases hm : s.m <;> simp [he, hm]
  · exact .inr (.inr ⟨he, rfl⟩)

theorem execT2_next {s t : State} (h : execT2 s = .next t) :
    (s.seq = .t2 ∧ t = (s.latchNextCmp (s.cmp + s.tpi)).goto .t3) ∨ (s.seq ≠ .t2 ∧ t = s) := by
  simpa using takeInternal_next h

theorem execT3_next {s t : State} (h : execT3 s = .next t) :
    (s.seq = .t3 ∧ t = (s.memWriteCmp s.nextCmp).goto .t4) ∨ (s.seq ≠ .t3 ∧ t = s) := by
  simpa using takeInternal_next h

theorem execT4_next {s t : State} (h : execT4 s = .next t) :
    (s.seq = .t4 ∧ late s.cfg.drift s.nextCmp s.cnt = true ∧ t = (s.latchCnt s.cnt).goto .t4b) ∨
    (s.seq = .t4 ∧ late s.cfg.drift s.nextCmp s.cnt = false ∧ t = (s.latchCnt s.cnt).goto .t5) ∨
    (s.seq ≠ .t4 ∧ t = s) := by
  rcases takeInternal_next h with ⟨he, rfl⟩ | ⟨he, rfl⟩
  · have he : s.seq = .t4 := by simpa using he
    cases hl : late s.cfg.drift s.nextCmp s.cnt <;> simp [he, hl]
  · exact .inr (.inr ⟨by simpa using he, rfl⟩)

theorem execT4b_next {s t : State} (h : execT4b s = .next t) :
    (s.seq = .t4b ∧ t = (s.memWriteCmp (s.cntLatch + s.tpi)).goto .t5) ∨ (s.seq ≠ .t4b ∧ t = s) := by
  simpa using takeInternal_next h

theorem execT5_next {s t : State} (h : execT5 s = .next t) :
    (s.seq = .t5 ∧ t = s.ackStatus.goto .t6) ∨ (s.seq ≠ .t5 ∧ t = s) := by
  simpa using takeInternal_next h

theorem execT6_next {s t : State} (h : execT6 s = .next t) :
    (s.seq = .t6 ∧ t = s.advanceClock.goto (.scan 0)) ∨ (s.seq ≠ .t6 ∧ t = s) := by
  simpa using takeInternal_next h

theorem execI2_next {s t : State} (h : execI2 s = .next t) :
    (s.seq = .i2 ∧ t = (s.memWriteCmp (s.cntLatch + s.tpi)).goto .i3) ∨ (s.seq ≠ .i2 ∧ t = s) := by
  simpa using takeInternal_next h

theorem execI3_next {s t : State} (h : execI3 s = .next t) :
    (s.seq = .i3 ∧ s.cfg.initAck = true ∧ t = s.ackStatus.enable.goto .idle) ∨
    (s.seq = .i3 ∧ s.cfg.initAck = false ∧ t = s.enable.goto .idle) ∨ (s.seq ≠ .i3 ∧ t = s) := by
  rcases takeInternal_next h with ⟨he, rfl⟩ | ⟨he, rfl⟩
  · have he : s.seq = .i3 := by simpa using he
    cases s.cfg.initAck <;> simp [he]
  · exact .inr (.inr ⟨by simpa using he, rfl⟩)

theorem execScan_next {i : Nat} {s t : State} (h : execScan i s = .next t) :
    (s.seq = .scan i ∧ i < s.cfg.k ∧ s.dueNow i = true ∧ t = s.fire i) ∨
    (s.seq = .scan i ∧ i < s.cfg.k ∧ s.dueNow i = false ∧ t = s.goto (.scan (i + 1))) ∨ t = s := by
  rcases takeInternal_next h with ⟨he, rfl⟩ | ⟨-, rfl⟩
  · have he : s.seq = .scan i ∧ i < s.cfg.k := by simpa using he
    cases s.dueNow i <;> simp [he]
  · exact .inr (.inr rfl)

theorem execScanK_next {s t : State} (h : execScanK s = .next t) :
    (s.seq = .scan s.cfg.k ∧ t = s.leaveTick) ∨ (s.seq ≠ .scan s.cfg.k ∧ t = s) := by
  simpa using takeInternal_next h

theorem execReadTicks_next {s t : State} (h : execReadTicks s = .next t) :
    (s.seq.accepts = true ∧ t = s.beginCommand.respond (.one s.ticks)) ∨ (s.seq.accepts = false ∧ t = s) :=
  takeCommand_next h

theorem execReadSeconds_next {s t : State} (h : execReadSeconds s = .next t) :
    (s.seq.accepts = true ∧ t = s.beginCommand.respond (.one s.secs)) ∨ (s.seq.accepts = false ∧ t = s) :=
  takeCommand_next h

theorem execReadSnapshot_next {s t : State} (h : execReadSnapshot s = .next t) :
    (s.seq.accepts = true ∧ t = s.beginCommand.respond (.two s.ticks s.secs)) ∨ (s.seq.accepts = false ∧ t = s) :=
  takeCommand_next h

theorem execReadRaw_next {s t : State} (h : execReadRaw s = .next t) :
    (s.seq.accepts = true ∧ t = s.beginCommand.respond (.one s.cnt)) ∨ (s.seq.accepts = false ∧ t = s) :=
  takeCommand_next h

theorem execRegister_next {delayTicks : U32} {handler param context : Ref} {s t : State}
    (h : execRegister delayTicks handler param context s = .next t) :
    (s.seq.accepts = true ∧ handler = 0 ∧ t = s.beginCommand.raiseFault .nullHandler) ∨
    (s.seq.accepts = true ∧ handler ≠ 0 ∧ s.firstFree = none ∧
      t = (s.beginCommand.emit (.log .panic .tableFull)).respond (.one 0)) ∨
    (s.seq.accepts = true ∧ handler ≠ 0 ∧ ∃ j, s.firstFree = some j ∧
      t = (s.beginCommand.setSlot j
        { handler := handler, deadline := s.ticks + delayTicks, param := param, context := context }).respond
          (.one (handleOfSlot j))) ∨
    (s.seq.accepts = false ∧ t = s) := by
  rcases takeCommand_next h with ⟨ha, rfl⟩ | ⟨ha, rfl⟩
  · have hf : s.beginCommand.firstFree = s.firstFree := rfl
    by_cases h0 : handler = 0
    · simp [ha, h0]
    · cases hj : s.firstFree <;> simp [ha, h0, State.registerTimer, hf, hj]
  · exact .inr (.inr (.inr ⟨ha, rfl⟩))

theorem execCancel_next {handle : U32} {s t : State} (h : execCancel handle s = .next t) :
    (s.seq.accepts = true ∧ s.handleInRange handle = true ∧ t = s.beginCommand.freeSlot (slotOfHandle handle)) ∨
    (s.seq.accepts = true ∧ s.handleInRange handle = false ∧ t = s.beginCommand.raiseFault .badHandle) ∨
    (s.seq.accepts = false ∧ t = s) := by
  rcases takeCommand_next h with ⟨ha, rfl⟩ | ⟨ha, rfl⟩
  · have hr : s.beginCommand.handleInRange handle = s.handleInRange handle := rfl
    cases hh : s.handleInRange handle <;> simp [ha, hr, hh]
  · exact .inr (.inr ⟨ha, rfl⟩)

theorem execCallbackDone_next {s t : State} (h : execCallbackDone s = .next t) :
    (∃ i, s.seq = .cb i ∧ t = s.beginCommand.leaveCallback i) ∨
    (s.seq = .idle ∧ t = s.beginCommand.raiseFault .badContext) ∨ (s.seq.accepts = false ∧ t = s) := by
  rcases takeCommand_next h with ⟨ha, rfl⟩ | ⟨ha, rfl⟩
  · rcases (accepts_iff _).mp ha with hs | ⟨i, hs⟩
    · exact .inr (.inl ⟨hs, by simp [hs]⟩)
    · exact .inl ⟨i, hs, by simp [hs]⟩
  · exact .inr (.inr ⟨ha, rfl⟩)

theorem execInit_next {s t : State} (h : execInit s = .next t) :
    (s.seq = .idle ∧ s.inited = false ∧ s.icAccept = true ∧
      t = (s.beginCommand.dropIcAnswer.latchCnt s.cnt).goto .i2) ∨
    (s.seq = .idle ∧ s.inited = false ∧ s.icAccept = false ∧
      t = s.beginCommand.dropIcAnswer.raiseFault .irqRegister) ∨
    (s.seq.accepts = true ∧ (s.seq ≠ .idle ∨ s.inited = true) ∧ t = s.beginCommand.raiseFault .badContext) ∨
    (s.seq.accepts = false ∧ t = s) := by
  rcases takeCommand_next h with ⟨ha, rfl⟩ | ⟨ha, rfl⟩
  · have hi : s.beginCommand.icAccept = s.icAccept := rfl
    by_cases hs : s.seq = .idle
    · cases hn : s.inited
      · cases hc : s.icAccept <;> simp [hs, hn, State.initI1, hi, hc]
      · simp [hs, hn, Seq.accepts]
    · simp [hs, ha]
  · exact .inr (.inr (.inr ⟨ha, rfl⟩))

theorem execReserved_next {cw : U32} {s t : State} (h : execReserved cw s = .next t) :
    (s.seq.accepts = true ∧ t = s.beginCommand.raiseFault .illegalCmd) ∨ (s.seq.accepts = false ∧ t = s) :=
  takeCommand_next h

/-- Every meaning answers a next state: a fault of the spec is one (R200). -/
theorem exec_answers (i : Instr) (s : State) : ∃ t, exec i s = .next t := by
  cases i <;> exact ⟨_, rfl⟩

/-! ## The inversion of exec -/

/-- What `exec` can answer: the instruction, the condition, and the named update that makes the next state. `same` is a held
command or a step out of turn (R180, log 3). -/
inductive ExecNext (s : State) : Instr → State → Prop
  | same (i : Instr) : ExecNext s i s
  | commandFault (i : Instr) (code : FaultCode) : s.seq.accepts = true → code ≠ .spuriousIrq → code ≠ .irqRegister →
      i = .init ∨ (∃ d p c, i = .register d 0 p c) ∨ (∃ h, i = .cancel h ∧ s.handleInRange h = false) ∨
        (i = .callbackDone ∧ s.seq = .idle) ∨ (∃ cw, i = .reserved cw) →
      ExecNext s i (s.beginCommand.raiseFault code)
  | initAccepted : s.seq = .idle → s.inited = false → s.icAccept = true →
      ExecNext s .init ((s.beginCommand.dropIcAnswer.latchCnt s.cnt).goto .i2)
  | initRefused : s.seq = .idle → s.inited = false → s.icAccept = false →
      ExecNext s .init (s.beginCommand.dropIcAnswer.raiseFault .irqRegister)
  | tableFull (d : U32) (h p c : Ref) : s.seq.accepts = true → h ≠ 0 → s.firstFree = none →
      ExecNext s (.register d h p c) ((s.beginCommand.emit (.log .panic .tableFull)).respond (.one 0))
  | slotFilled (d : U32) (h p c : Ref) (j : Nat) : s.seq.accepts = true → h ≠ 0 → s.firstFree = some j →
      ExecNext s (.register d h p c) ((s.beginCommand.setSlot j
        { handler := h, deadline := s.ticks + d, param := p, context := c }).respond (.one (handleOfSlot j)))
  | cancelled (h : U32) : s.seq.accepts = true → s.handleInRange h = true →
      ExecNext s (.cancel h) (s.beginCommand.freeSlot (slotOfHandle h))
  | readDone (i : Instr) (r : Response) : s.seq.accepts = true →
      (i = .readTicks ∧ r = .one s.ticks) ∨ (i = .readSeconds ∧ r = .one s.secs) ∨
        (i = .readSnapshot ∧ r = .two s.ticks s.secs) ∨ (i = .readRaw ∧ r = .one s.cnt) →
      ExecNext s i (s.beginCommand.respond r)
  | callbackReturned (i : Nat) : s.seq = .cb i → ExecNext s .callbackDone (s.beginCommand.leaveCallback i)
  | t1Entered : s.t1Enabled = true → s.m = true → ExecNext s .t1 s.enterTick
  | t1Spurious : s.t1Enabled = true → s.m = false → ExecNext s .t1 (s.raiseFault .spuriousIrq)
  | t2 : s.seq = .t2 → ExecNext s .t2 ((s.latchNextCmp (s.cmp + s.tpi)).goto .t3)
  | t3 : s.seq = .t3 → ExecNext s .t3 ((s.memWriteCmp s.nextCmp).goto .t4)
  | t4Late : s.seq = .t4 → late s.cfg.drift s.nextCmp s.cnt = true →
      ExecNext s .t4 ((s.latchCnt s.cnt).goto .t4b)
  | t4NotLate : s.seq = .t4 → late s.cfg.drift s.nextCmp s.cnt = false →
      ExecNext s .t4 ((s.latchCnt s.cnt).goto .t5)
  | t4b : s.seq = .t4b → ExecNext s .t4b ((s.memWriteCmp (s.cntLatch + s.tpi)).goto .t5)
  | t5 : s.seq = .t5 → ExecNext s .t5 (s.ackStatus.goto .t6)
  | t6 : s.seq = .t6 → ExecNext s .t6 (s.advanceClock.goto (.scan 0))
  | i2 : s.seq = .i2 → ExecNext s .i2 ((s.memWriteCmp (s.cntLatch + s.tpi)).goto .i3)
  | i3Ack : s.seq = .i3 → s.cfg.initAck = true → ExecNext s .i3 (s.ackStatus.enable.goto .idle)
  | i3NoAck : s.seq = .i3 → s.cfg.initAck = false → ExecNext s .i3 (s.enable.goto .idle)
  | slotFired (i : Nat) : s.seq = .scan i → i < s.cfg.k → s.dueNow i = true → ExecNext s (.scan i) (s.fire i)
  | slotPassed (i : Nat) : s.seq = .scan i → i < s.cfg.k → s.dueNow i = false →
      ExecNext s (.scan i) (s.goto (.scan (i + 1)))
  | scanEnded : s.seq = .scan s.cfg.k → ExecNext s .scanK s.leaveTick

theorem exec_next {i : Instr} {s t : State} (h : exec i s = .next t) : ExecNext s i t := by
  cases i <;> simp only [exec] at h
  case init =>
    rcases execInit_next h with ⟨a, b, c, rfl⟩ | ⟨a, b, c, rfl⟩ | ⟨a, -, rfl⟩ | ⟨-, rfl⟩
    exacts [.initAccepted a b c, .initRefused a b c, .commandFault _ _ a nofun nofun (.inl rfl), .same _]
  case register d h p c =>
    rcases execRegister_next h with ⟨a, rfl, rfl⟩ | ⟨a, b, c, rfl⟩ | ⟨a, b, j, c, rfl⟩ | ⟨-, rfl⟩
    exacts [.commandFault _ _ a nofun nofun (.inr (.inl ⟨_, _, _, rfl⟩)), .tableFull _ _ _ _ a b c,
      .slotFilled _ _ _ _ j a b c, .same _]
  case cancel =>
    rcases execCancel_next h with ⟨a, b, rfl⟩ | ⟨a, b, rfl⟩ | ⟨-, rfl⟩
    exacts [.cancelled _ a b, .commandFault _ _ a nofun nofun (.inr (.inr (.inl ⟨_, rfl, b⟩))), .same _]
  case readTicks =>
    rcases execReadTicks_next h with ⟨a, rfl⟩ | ⟨-, rfl⟩
    exacts [.readDone _ _ a (.inl ⟨rfl, rfl⟩), .same _]
  case readSeconds =>
    rcases execReadSeconds_next h with ⟨a, rfl⟩ | ⟨-, rfl⟩
    exacts [.readDone _ _ a (.inr (.inl ⟨rfl, rfl⟩)), .same _]
  case readSnapshot =>
    rcases execReadSnapshot_next h with ⟨a, rfl⟩ | ⟨-, rfl⟩
    exacts [.readDone _ _ a (.inr (.inr (.inl ⟨rfl, rfl⟩))), .same _]
  case readRaw =>
    rcases execReadRaw_next h with ⟨a, rfl⟩ | ⟨-, rfl⟩
    exacts [.readDone _ _ a (.inr (.inr (.inr ⟨rfl, rfl⟩))), .same _]
  case callbackDone =>
    rcases execCallbackDone_next h with ⟨i, a, rfl⟩ | ⟨a, rfl⟩ | ⟨-, rfl⟩
    exacts [.callbackReturned i a,
      .commandFault _ _ (by simp [a, Seq.accepts]) nofun nofun (.inr (.inr (.inr (.inl ⟨rfl, a⟩)))), .same _]
  case t1 =>
    rcases execT1_next h with ⟨a, b, rfl⟩ | ⟨a, b, rfl⟩ | ⟨-, rfl⟩
    exacts [.t1Entered a b, .t1Spurious a b, .same _]
  case t2 => rcases execT2_next h with ⟨a, rfl⟩ | ⟨-, rfl⟩; exacts [.t2 a, .same _]
  case t3 => rcases execT3_next h with ⟨a, rfl⟩ | ⟨-, rfl⟩; exacts [.t3 a, .same _]
  case t4 =>
    rcases execT4_next h with ⟨a, b, rfl⟩ | ⟨a, b, rfl⟩ | ⟨-, rfl⟩
    exacts [.t4Late a b, .t4NotLate a b, .same _]
  case t4b => rcases execT4b_next h with ⟨a, rfl⟩ | ⟨-, rfl⟩; exacts [.t4b a, .same _]
  case t5 => rcases execT5_next h with ⟨a, rfl⟩ | ⟨-, rfl⟩; exacts [.t5 a, .same _]
  case t6 => rcases execT6_next h with ⟨a, rfl⟩ | ⟨-, rfl⟩; exacts [.t6 a, .same _]
  case i2 => rcases execI2_next h with ⟨a, rfl⟩ | ⟨-, rfl⟩; exacts [.i2 a, .same _]
  case i3 =>
    rcases execI3_next h with ⟨a, b, rfl⟩ | ⟨a, b, rfl⟩ | ⟨-, rfl⟩
    exacts [.i3Ack a b, .i3NoAck a b, .same _]
  case scan =>
    rcases execScan_next h with ⟨a, b, c, rfl⟩ | ⟨a, b, c, rfl⟩ | rfl
    exacts [.slotFired _ a b c, .slotPassed _ a b c, .same _]
  case scanK => rcases execScanK_next h with ⟨a, rfl⟩ | ⟨-, rfl⟩; exacts [.scanEnded a, .same _]
  case reserved =>
    rcases execReserved_next h with ⟨a, rfl⟩ | ⟨-, rfl⟩
    exacts [.commandFault _ _ a nofun nofun (.inr (.inr (.inr (.inr ⟨_, rfl⟩)))), .same _]

end Sys2Proof.Machine
end

