-- ==== Sys2Proof/Laws/PerInstr.lean ====
section
/-!
SUPPORT. The family EncodingFitsPort, one lemma per instruction: what a well-formed instruction assembles to (R83, R87) fits
the wires of the command port (R80).
-/

namespace Sys2Proof.Laws

open Sys2Proof

/-- The encoding of a well-formed instruction, if it has one, fits the port. -/
def EncodingFitsPort.Statement (i : Instr) : Prop :=
  ∀ (c : Config) (tx : Transaction), i.wf c = true → encode i = some tx → tx.wf c = true

theorem bareCommand_wf (c : Config) (cw : U32) : (bareCommand cw).wf c = true := by
  simp [bareCommand, Transaction.wf, Config.fitsRef]

theorem EncodingFitsPort.init : EncodingFitsPort.Statement .init := fun c tx _ h => by
  obtain rfl := Option.some.inj h
  exact bareCommand_wf c _
theorem EncodingFitsPort.register (delayTicks : U32) (handler param context : Ref) :
    EncodingFitsPort.Statement (.register delayTicks handler param context) := fun c tx hw h => by
  obtain rfl := Option.some.inj h
  exact hw
theorem EncodingFitsPort.cancel (handle : U32) : EncodingFitsPort.Statement (.cancel handle) := fun c tx _ h => by
  obtain rfl := Option.some.inj h
  simp [Transaction.wf, Config.fitsRef]
theorem EncodingFitsPort.readTicks : EncodingFitsPort.Statement .readTicks := fun c tx _ h => by
  obtain rfl := Option.some.inj h
  exact bareCommand_wf c _
theorem EncodingFitsPort.readSeconds : EncodingFitsPort.Statement .readSeconds := fun c tx _ h => by
  obtain rfl := Option.some.inj h
  exact bareCommand_wf c _
theorem EncodingFitsPort.readSnapshot : EncodingFitsPort.Statement .readSnapshot := fun c tx _ h => by
  obtain rfl := Option.some.inj h
  exact bareCommand_wf c _
theorem EncodingFitsPort.readRaw : EncodingFitsPort.Statement .readRaw := fun c tx _ h => by
  obtain rfl := Option.some.inj h
  exact bareCommand_wf c _
theorem EncodingFitsPort.callbackDone : EncodingFitsPort.Statement .callbackDone := fun c tx _ h => by
  obtain rfl := Option.some.inj h
  exact bareCommand_wf c _
theorem EncodingFitsPort.t1 : EncodingFitsPort.Statement .t1 := fun _ _ _ h => nomatch h
theorem EncodingFitsPort.t2 : EncodingFitsPort.Statement .t2 := fun _ _ _ h => nomatch h
theorem EncodingFitsPort.t3 : EncodingFitsPort.Statement .t3 := fun _ _ _ h => nomatch h
theorem EncodingFitsPort.t4 : EncodingFitsPort.Statement .t4 := fun _ _ _ h => nomatch h
theorem EncodingFitsPort.t4b : EncodingFitsPort.Statement .t4b := fun _ _ _ h => nomatch h
theorem EncodingFitsPort.t5 : EncodingFitsPort.Statement .t5 := fun _ _ _ h => nomatch h
theorem EncodingFitsPort.t6 : EncodingFitsPort.Statement .t6 := fun _ _ _ h => nomatch h
theorem EncodingFitsPort.i2 : EncodingFitsPort.Statement .i2 := fun _ _ _ h => nomatch h
theorem EncodingFitsPort.i3 : EncodingFitsPort.Statement .i3 := fun _ _ _ h => nomatch h
theorem EncodingFitsPort.scan (i : Nat) : EncodingFitsPort.Statement (.scan i) := fun _ _ _ h => nomatch h
theorem EncodingFitsPort.scanK : EncodingFitsPort.Statement .scanK := fun _ _ _ h => nomatch h
theorem EncodingFitsPort.reserved (cw : U32) : EncodingFitsPort.Statement (.reserved cw) := fun c tx _ h => by
  obtain rfl := Option.some.inj h
  exact bareCommand_wf c _

end Sys2Proof.Laws
end

