-- ==== Sys2Proof/Laws/Run.lean ====
section
/-!
SUPPORT. Runs taken one turn at a time.
-/

namespace Sys2Proof.Machine

open Sys2Proof

theorem run_zero (s : State) : Host.Core.run Sys2Proof.core 0 s = .next s := rfl

theorem run_succ (k : Nat) (s : State) :
    Host.Core.run Sys2Proof.core (k + 1) s = match step s with
      | .next t => Host.Core.run Sys2Proof.core k t
      | .fault r => .fault r
      | .refused r => .refused r := by
  simp only [Host.Core.run, Sys2Proof.core]
  cases step s <;> rfl

/-- A run of one step and more, once that step's answer is known. -/
theorem run_succ_of_step {k : Nat} {s t : State} (h : step s = .next t) :
    Host.Core.run Sys2Proof.core (k + 1) s = Host.Core.run Sys2Proof.core k t := by
  rw [run_succ, h]

/-- The first step of a run that answers a next state. -/
theorem run_succ_next {k : Nat} {s u : State} (h : Host.Core.run Sys2Proof.core (k + 1) s = .next u) :
    ∃ t, step s = .next t ∧ Host.Core.run Sys2Proof.core k t = .next u := by
  rw [run_succ] at h
  split at h
  · next t ht => exact ⟨t, ht, h⟩
  · simp at h
  · simp at h

theorem runTurns_nil (s : State) : runTurns [] s = .next { s with sched := [] } := rfl

/-- A run over chosen turns takes the first one, then the rest. -/
theorem runTurns_cons {u : Turn} {ts : List Turn} {s t : State} (ha : s.cfg.admitted = true)
    (h : takeTurn u { s with sched := ts } = .next t) :
    runTurns (u :: ts) s = Host.Core.run Sys2Proof.core ts.length t := by
  have hs : step { s with sched := u :: ts } = .next t := by
    rw [step_of_admitted (show ({ s with sched := u :: ts } : State).cfg.admitted = true from ha),
      nextTurn_of_sched rfl, dropTurn_of_sched rfl]
    exact h
  exact run_succ_of_step hs

end Sys2Proof.Machine
end

