-- ==== Sys2Proof/Tests/Slice0.lean ====
section
/-!
SUPPORT. Tests. Expected values are those of spec/95_test_vectors.md (V<n>), of the rules' own examples, or the spec's tables; each
comment names its source. Then the witnesses: for each statement with hypotheses, states and operands that meet them.
-/

namespace Sys2Proof.Tests

open Sys2Proof Sys2Proof.Machine

/-! ## Well-formedness: each check refuses an ill-formed term (R80, R82, R84, R28, R6) -/

theorem test_wf_register_handler : Instr.wf Config.ex (.register 0 (2 ^ 64) 0 0) = false := by decide
theorem test_wf_register_param : Instr.wf Config.ex (.register 0 1 (2 ^ 64) 0) = false := by decide
theorem test_wf_register_context : Instr.wf Config.ex (.register 0 1 0 (2 ^ 64)) = false := by decide
theorem test_wf_scan_index : Instr.wf Config.ex (.scan 4) = false := by decide
theorem test_wf_reserved_legal_word : Instr.wf Config.ex (.reserved 0x00000008#32) = false := by decide
theorem test_wf_transaction_b :
    Transaction.wf Config.ex { cw := 2, a := 0, b := 2 ^ 64, c := 0, d := 0 } = false := by decide
theorem test_wf_transaction_d :
    Transaction.wf Config.ex { cw := 2, a := 0, b := 0, c := 0, d := 2 ^ 64 } = false := by decide
/-- V8. -/
theorem test_config_tpi_zero : Config.admitted { Config.ex with clockHz := 100, hz := 200 } = false := by decide
/-- V9. -/
theorem test_config_tpi_large : Config.admitted { Config.ex with clockHz := 2 ^ 32 - 1, hz := 1 } = false := by decide
theorem test_config_no_slots : Config.admitted { Config.ex with k := 0 } = false := by decide
theorem test_config_no_reference : Config.admitted { Config.ex with refW := 0 } = false := by decide
/-- V7. -/
theorem test_tpi_floor : Config.tpi { Config.ex with hz := 300 } = 3333 := by decide

/-! ## Decoding: words written out from R83, and the examples of R181 -/

theorem test_decode_init : decodeTableWord 32 0b00000000000000000000000000000001 = some .init := by decide
theorem test_decode_register : decodeTableWord 256
    (0b10 + 2 ^ 32 * 3 + 2 ^ 64 * 0x1000 + 2 ^ 128 * 0xAA + 2 ^ 192 * 0xBB) =
      some (.register 3 0x1000 0xAA 0xBB) := by decide
theorem test_decode_cancel : decodeTableWord 64 (0b11 + 2 ^ 32 * 2) = some (.cancel 2) := by decide
theorem test_decode_readTicks : decodeTableWord 32 0b100 = some .readTicks := by decide
theorem test_decode_readSeconds : decodeTableWord 32 0b101 = some .readSeconds := by decide
theorem test_decode_readSnapshot : decodeTableWord 32 0b110 = some .readSnapshot := by decide
theorem test_decode_readRaw : decodeTableWord 32 0b111 = some .readRaw := by decide
theorem test_decode_callbackDone : decodeTableWord 32 0b1000 = some .callbackDone := by decide
/-- V80 to V84. -/
theorem test_decode_reserved :
    decodeTableWord 32 0x00000000 = some (.reserved 0x00000000) ∧
    decodeTableWord 32 0x00000009 = some (.reserved 0x00000009) ∧
    decodeTableWord 32 0x0000000F = some (.reserved 0x0000000F) ∧
    decodeTableWord 32 0x00000012 = some (.reserved 0x00000012) ∧
    decodeTableWord 32 0x80000004 = some (.reserved 0x80000004) := by decide
/-- R64: no narrower access; R80: no longer transaction. -/
theorem test_decode_refused : decodeTableWord 16 1 = none ∧ decodeTableWord 257 1 = none := by decide

/-! ## The computed tests -/

/-- V1 to V5. -/
theorem test_sdiff32 : sdiff32 5 3 = 2 ∧ sdiff32 3 5 = -2 ∧ sdiff32 0x00000002 0xFFFFFFFE = 4 ∧
    sdiff32 0x80000000 0 = -2147483648 ∧ sdiff32 0x80000004 5 = 2147483647 := by decide
/-- V10 to V16, SIGNED_LE. -/
theorem test_late_signed : [late .signedLE 20000 10003, late .signedLE 20000 25000, late .signedLE 20000 20000,
    late .signedLE 20000 19999, late .signedLE 0x00000710 0xFFFFE005, late .signedLE 0xFFFFF000 0x00000100,
    late .signedLE 0x80000000 0] = [false, true, true, false, false, true, true] := by decide
/-- V10 to V16, UNSIGNED_LT. -/
theorem test_late_unsigned : [late .unsignedLT 20000 10003, late .unsignedLT 20000 25000, late .unsignedLT 20000 20000,
    late .unsignedLT 20000 19999, late .unsignedLT 0x00000710 0xFFFFE005, late .unsignedLT 0xFFFFF000 0x00000100,
    late .unsignedLT 0x80000000 0] = [false, true, false, false, true, false, false] := by decide
/-- An occupied slot of deadline `d`. -/
def timer (d : U32) : Slot := { handler := 0x2000, deadline := d, param := 0x11, context := 0x22 }
/-- V60 to V66. -/
theorem test_due : [(timer 8).due 7, (timer 8).due 8, (timer 8).due 9, (timer 2).due 0xFFFFFFFE, (timer 2).due 2,
    (timer 0x80000005).due 5, (timer 0x80000004).due 5] = [false, true, true, false, true, true, false] := by decide
/-- V67. -/
theorem test_due_free : { timer 8 with handler := 0 }.due 8 = false := by decide

/-! ## One step of each instruction -/

/-- The next state, if there is one. -/
def after (o : Host.Outcome State Fault Refusal) : Option State :=
  match o with
  | .next s => some s
  | .fault _ => none
  | .refused _ => none

/-- The start of most vectors: IDLE, INITED = 1, IE = 1, configuration EX. -/
def run : State := { State.reset with inited := true, ie := true }

/-- `run` in a sequencer state. -/
def at' (q : Seq) : State := { run with seq := q }

/-- V25. -/
theorem test_t1 : (after (exec .t1 { run with m := true })).map (·.seq) = some .t2 := by decide
/-- V26. -/
theorem test_t1_spurious :
    (after (exec .t1 { run with cfg := { Config.ex with spuriousIrq := true } })).map
      (fun t => (t.seq, t.status, t.events)) = some (.halted, 0x00000213, [.fault .spuriousIrq]) := by decide
/-- R101's example. -/
theorem test_t2 : (after (exec .t2 { at' .t2 with cmp := 10000 })).map (fun t => (t.nextCmp, t.seq)) =
    some (20000, .t3) := by decide
/-- R101's wrap, V6. -/
theorem test_t2_wraps : (after (exec .t2 { at' .t2 with cmp := 0xFFFFE000 })).map (·.nextCmp) = some 0x00000710 := by
  decide
/-- R102's example; without MATCH_ON_WRITE the write of a value equal to CNT sets no M (R62). -/
theorem test_t3 : (after (exec .t3 { at' .t3 with nextCmp := 20000, cnt := 20000 })).map
    (fun t => (t.cmp, t.m, t.seq)) = some (20000, false, .t4) := by decide
/-- R62 with MATCH_ON_WRITE. -/
theorem test_t3_match_on_write : (after (exec .t3
    { at' .t3 with cfg := { Config.ex with matchOnWrite := true }, nextCmp := 20000, cnt := 20000 })).map
    (·.m) = some true := by decide
/-- R103's examples. -/
theorem test_t4 : (after (exec .t4 { at' .t4 with nextCmp := 20000, cnt := 10003 })).map (fun t => (t.cntLatch, t.seq)) =
    some (10003, .t5) := by decide
theorem test_t4_late : (after (exec .t4 { at' .t4 with nextCmp := 20000, cnt := 25000 })).map (·.seq) = some .t4b := by
  decide
/-- R105's example. -/
theorem test_t4b : (after (exec .t4b { at' .t4b with nextCmp := 20000, cntLatch := 25000, cnt := 25007 })).map
    (fun t => (t.cmp, t.nextCmp, t.seq)) = some (35000, 20000, .t5) := by decide
/-- V29. -/
theorem test_t5 : (after (exec .t5 { at' .t5 with m := true })).map (fun t => (t.m, t.seq)) = some (false, .t6) := by
  decide
/-- V30. -/
theorem test_t6 : (after (exec .t6 { at' .t6 with ticks := 99 })).map (fun t => (t.ticks, t.secs, t.seq)) =
    some (100, 1, .scan 0) := by decide
/-- V33. -/
theorem test_t6_wraps : (after (exec .t6 { at' .t6 with ticks := 0xFFFFFFFF, secs := 42949672 })).map
    (fun t => (t.ticks, t.secs)) = some (0, 42949673) := by decide
/-- R184's example. -/
theorem test_i2 : (after (exec .i2 { State.reset with seq := .i2, cntLatch := 1000 })).map (fun t => (t.cmp, t.seq)) =
    some (11000, .i3) := by decide
/-- R185's example, V85. -/
theorem test_i3 : (after (exec .i3 { State.reset with seq := .i3, m := true })).map (fun t => (t.m, t.seq, t.status)) =
    some (false, .idle, 0x00000003) := by decide
/-- V69. -/
theorem test_scan_fires :
    (after (exec (.scan 1) { at' (.scan 1) with ticks := 8, slots := [.zero, timer 8, .zero, .zero] })).map
      (fun t => ((t.slotAt 1).occupied, t.events, t.seq, t.status.getLsbD 3)) =
    some (false, [.fire 2 0x2000 0x11 0x22], .cb 1, true) := by decide
/-- V68. -/
theorem test_scan_passes :
    (after (exec (.scan 1) { at' (.scan 1) with ticks := 8, slots := [.zero, timer 9, .zero, .zero] })).map
      (fun t => (t.events, t.seq)) = some ([], .scan 2) := by decide
/-- V71. -/
theorem test_scanK : (after (exec .scanK (at' (.scan 4)))).map (·.seq) = some .idle := by decide
/-- V40. -/
theorem test_register : (after (exec (.register 3 0x1000 0xAA 0xBB) { run with ticks := 5 })).map
    (fun t => (t.slotAt 0, t.rsp)) =
    some ({ handler := 0x1000, deadline := 8, param := 0xAA, context := 0xBB }, .one 1) := by decide
/-- V50. -/
theorem test_register_full : (after (exec (.register 5 0x9000 0 0)
    { run with slots := [timer 1, timer 2, timer 3, timer 4] })).map (fun t => (t.rsp, t.events, t.seq)) =
    some (.one 0, [.log .panic .tableFull], .idle) := by decide
/-- V47. -/
theorem test_cancel : (after (exec (.cancel 4) { run with slots := [timer 1, timer 2, timer 3, timer 4] })).map
    (fun t => t.slots.map Slot.occupied) = some [true, true, true, false] := by decide
/-- V44. -/
theorem test_cancel_zero : (after (exec (.cancel 0) run)).map (fun t => (t.seq, t.status, t.events)) =
    some (.halted, 0x00000813, [.fault .badHandle]) := by decide
/-- V35. -/
theorem test_readTicks : (after (exec .readTicks { run with ticks := 7 })).map (·.rsp) = some (.one 7) := by decide
/-- V36. -/
theorem test_readSeconds : (after (exec .readSeconds { run with secs := 3 })).map (·.rsp) = some (.one 3) := by decide
/-- V37. -/
theorem test_readSnapshot : (after (exec .readSnapshot { run with ticks := 250, secs := 2 })).map (·.rsp) =
    some (.two 250 2) := by decide
/-- V38. -/
theorem test_readRaw : (after (exec .readRaw { run with cnt := 0x0001E240 })).map (·.rsp) = some (.one 0x0001E240) := by
  decide
/-- V70. -/
theorem test_callbackDone : (after (exec .callbackDone (at' (.cb 1)))).map (·.seq) = some (.scan 2) := by decide
/-- V72. -/
theorem test_callbackDone_idle : (after (exec .callbackDone run)).map (fun t => (t.seq, t.status)) =
    some (.halted, 0x00002013) := by decide
/-- V85, its first step. -/
theorem test_init : (after (exec .init { State.reset with cnt := 1000, icAnswer := some true })).map
    (fun t => (t.cntLatch, t.seq, t.status)) = some (1000, .i2, 0x00000004) := by decide
/-- V86. -/
theorem test_init_refused : (after (exec .init { State.reset with cnt := 1000, icAnswer := some false })).map
    (fun t => (t.seq, t.status, t.cmp, t.ie, t.events)) =
    some (.halted, 0x00000110, 0, false, [.fault .irqRegister]) := by decide
/-- V87. -/
theorem test_init_twice : (after (exec .init run)).map (·.status) = some 0x00002013 := by decide
/-- V80. -/
theorem test_reserved : (after (exec (.reserved 0) State.reset)).map (fun t => (t.status, t.events)) =
    some (0x00001010, [.fault .illegalCmd]) := by decide
/-- V89. -/
theorem test_held : (after (exec .readTicks { at' .t3 with port := some (bareCommand 4) })).map
    (fun t => (t.port, t.rsp)) = some (some (bareCommand 4), .undriven) := by decide

/-! ## Steps -/

/-- V39: the first command after reset. -/
theorem test_step_readTicks :
    (after (step (State.reset.withFetchWord 64 (0x00000004 + 2 ^ 32 * 0xFFFFFFFF)))).map (·.rsp) = some (.one 0) := by
  decide
/-- P5's first line. -/
theorem test_step_cancel_zero : (after (step (State.reset.withFetchWord 32 3))).map (fun t => (t.status, t.port)) =
    some (0x00000810, none) := by decide
/-- R32 at the match, and at the wrap. -/
theorem test_clock : (after (step { State.reset with cnt := 10999, cmp := 11000, sched := [.clock] })).map
    (fun t => (t.cnt, t.m)) = some (11000, true) := by decide
theorem test_clock_wraps : (after (step { State.reset with cnt := 0xFFFFFFFF, cmp := 1, sched := [.clock] })).map
    (fun t => (t.cnt, t.m)) = some (0, false) := by decide
/-- V27 and V28: T1 is not enabled. -/
theorem test_t1_not_enabled : { run with ie := false, m := true }.internalStep = none ∧
    { at' (.cb 0) with m := true }.internalStep = none := by decide
/-- V95. -/
theorem test_reset_turn : (after (step { at' .halted with fault := 8, ticks := 7, sched := [.reset ResetDraws.zero] })).map
    (fun t => (t.status, t.ticks, t.seq)) = some (0, 0, .idle) := by decide

/-! ## Witnesses: the hypotheses of the statements can be met, clause by clause -/

/-- A command at the port. -/
def presenting (cw : U32) : State := { run with port := some (bareCommand cw) }

theorem witness_reset_Inv : State.reset.Inv where
  admitted := by decide
  slots_length := by decide
  slots_fit := by decide
  port_fits := nofun
  seq_legal := by decide
  ie_eq_inited := by decide
  inited_of_inTick := by decide
  not_inited_of_inInit := by decide
  fault_iff_halted := by decide
  fault_single := .inl (by decide)

theorem witness_run_Inv : run.Inv where
  admitted := by decide
  slots_length := by decide
  slots_fit := by decide
  port_fits := nofun
  seq_legal := by decide
  ie_eq_inited := by decide
  inited_of_inTick := by decide
  not_inited_of_inInit := by decide
  fault_iff_halted := by decide
  fault_single := .inl (by decide)

theorem witness_DecodeOfEncodedBitsIsInstruction :
    (Instr.wf Config.ex (.register 0xFFFFFFFF (2 ^ 64 - 1) (2 ^ 64 - 1) (2 ^ 64 - 1)) = true ∧
      encode (.register 0xFFFFFFFF (2 ^ 64 - 1) (2 ^ 64 - 1) (2 ^ 64 - 1)) =
        some { cw := 2, a := 0xFFFFFFFF, b := 2 ^ 64 - 1, c := 2 ^ 64 - 1, d := 2 ^ 64 - 1 }) ∧
    (Instr.wf Config.ex (.reserved 9) = true ∧ encode (.reserved 9) = some (bareCommand 9)) := by decide

/-- The ranges of the illegal words meet at 0 and at 9, and no legal word is in them. -/
theorem witness_EveryWordIsLegalOrReserved :
    (bareCommand 1).cw = 1 ∧ (bareCommand 8).cw = 8 ∧ (bareCommand 0).cw.toNat = 0 ∧ 9 ≤ (bareCommand 9).cw.toNat ∧
    ¬ (9 ≤ (bareCommand 8).cw.toNat) ∧ 9 ≤ (bareCommand 0xFFFFFFFF).cw.toNat := by decide

theorem witness_IgnoredOperandsHaveNoEffect :
    (bareCommand 4).cw = ({ bareCommand 4 with a := 0xFFFFFFFF, b := 7 } : Transaction).cw ∧
    (bareCommand 4).cw ≠ 2 ∧ (bareCommand 4).cw ≠ 3 ∧ (bareCommand 2).cw = 2 ∧ (bareCommand 3).cw = 3 := by decide

theorem witness_InternalStepsHaveNoEncoding : isCommand (.scan 0) = false ∧ isCommand .t1 = false := by decide

theorem witness_StepRunsTheDecodedCommand :
    ({ presenting 4 with sched := [.command] } : State).cfg.admitted = true ∧
    ({ presenting 4 with sched := [.command] } : State).sched = .command :: [] ∧
    ({ presenting 4 with sched := [.command] } : State).port = some (bareCommand 4) := by decide

theorem witness_StepRunsTheSequencersStep :
    ({ at' .t2 with sched := [.block] } : State).cfg.admitted = true ∧
    ({ at' .t2 with sched := [.block] } : State).sched = .block :: [] ∧
    ({ at' .t2 with sched := [.block] } : State).internalStep = some .t2 ∧
    ({ at' (.cb 3) with sched := [.block] } : State).internalStep = none := by decide

/-- One state for each sequencer value; the scan at its last slot and at its end. -/
theorem witness_SequencerStateSelectsTheStep :
    [Seq.idle, .i2, .i3, .t2, .t3, .t4, .t4b, .t5, .t6, .scan 3, .scan 4, .cb 3, .halted].map (fun q => (at' q).seq) =
      [Seq.idle, .i2, .i3, .t2, .t3, .t4, .t4b, .t5, .t6, .scan 3, .scan (at' (.scan 4)).cfg.k, .cb 3, .halted] ∧
    3 < (at' (.scan 3)).cfg.k := by decide

theorem witness_ClockTurnAdvancesAndMatches :
    ({ run with sched := [.clock] } : State).cfg.admitted = true ∧
    ({ run with sched := [.clock] } : State).sched = .clock :: [] := by decide

theorem witness_UndecidedTurnIsTheFreeValue : State.reset.sched = [] := by decide

theorem witness_CommandOutsideAcceptingStatesIsHeld :
    ∃ s : State, s.cfg.admitted = true ∧ s.sched = .command :: [] ∧ s.port = some (bareCommand 4) ∧ s.seq ≠ .idle ∧
      ∀ i, s.seq ≠ .cb i :=
  ⟨{ presenting 4 with seq := .t3, sched := [.command] }, by decide, rfl, rfl, by decide, nofun⟩

theorem witness_HostAndControllerTurns :
    (∃ s : State, s.cfg.admitted = true ∧ s.sched = .present (bareCommand 4) :: [] ∧ s.port = none) ∧
    (∃ s : State, s.cfg.admitted = true ∧ s.sched = .present (bareCommand 4) :: [] ∧ s.port = some (bareCommand 5)) ∧
    (∃ s : State, s.cfg.admitted = true ∧ s.sched = .icAnswer true :: []) :=
  ⟨⟨{ run with sched := [.present (bareCommand 4)] }, by decide, rfl, rfl⟩,
    ⟨{ presenting 5 with sched := [.present (bareCommand 4)] }, by decide, rfl, rfl⟩,
    ⟨{ run with sched := [.icAnswer true] }, by decide, rfl⟩⟩

theorem witness_ResetTurnGivesTheResetState :
    ∃ s : State, s.cfg.admitted = true ∧ s.sched = .reset ResetDraws.zero :: [] ∧ s.seq = .halted :=
  ⟨{ at' .halted with sched := [.reset ResetDraws.zero] }, by decide, rfl, rfl⟩

/-- Both sides of R6's bounds: TPI at its greatest, and one more. -/
theorem witness_ConfigurationOutsideBoundsIsRefused :
    Config.admitted { Config.ex with clockHz := 2 ^ 31 - 1, hz := 1 } = true ∧
    Config.admitted { Config.ex with clockHz := 2 ^ 31, hz := 1 } = false := by decide

theorem witness_AdmittedMachineAlwaysSteps : State.reset.cfg.admitted = true := by decide

theorem witness_PlacedWordRunsNext : State.reset.cfg.admitted = true := by decide

theorem witness_InitStepI1 :
    (∃ s : State, s.seq = .idle ∧ s.inited = false ∧ s.icAccept = true ∧ s.icAnswer = some true) ∧
    (∃ s : State, s.seq = .idle ∧ s.inited = false ∧ s.icAccept = false) ∧
    (∃ s : State, s.seq = .idle ∧ s.inited = true) ∧ (∃ s : State, s.seq = .cb 0) ∧ State.reset.icAnswer = none ∧
    (bareCommand 1).cw = 1 :=
  ⟨⟨{ State.reset with icAnswer := some true }, rfl, rfl, rfl, rfl⟩,
    ⟨{ State.reset with icAnswer := some false }, rfl, rfl, rfl⟩, ⟨run, rfl, rfl⟩, ⟨at' (.cb 0), rfl⟩, rfl, rfl⟩

theorem witness_InitSteps :
    ({ State.reset with seq := .i2 } : State).seq = .i2 ∧ ({ State.reset with seq := .i3 } : State).seq = .i3 := by decide

/-- A full table of K = 4, and one whose last slot only is free. -/
def fullTable : State := { run with slots := [timer 1, timer 2, timer 3, timer 4] }
def lastSlotFree : State := { run with slots := [timer 1, timer 2, timer 3, .zero] }

theorem witness_RegisterFillsTheFirstFreeSlot :
    (fullTable.seq = .idle ∧ fullTable.slots.length = fullTable.cfg.k ∧
      ∀ i < fullTable.cfg.k, (fullTable.slotAt i).handler ≠ 0) ∧
    (lastSlotFree.slots.length = lastSlotFree.cfg.k ∧ 3 < lastSlotFree.cfg.k ∧ (lastSlotFree.slotAt 3).handler = 0 ∧
      ∀ i < 3, (lastSlotFree.slotAt i).handler ≠ 0) ∧
    (at' (.cb 0)).seq = .cb 0 ∧ (at' (.cb 0)).slots.length = (at' (.cb 0)).cfg.k := by decide

/-- Handles 1 and K = 4 are in range; 0 and K + 1 = 5 are not. -/
theorem witness_CancelFreesTheNamedSlot :
    run.seq = .idle ∧ (1 ≤ (1 : U32).toNat ∧ (1 : U32).toNat ≤ run.cfg.k) ∧ (1 ≤ (4 : U32).toNat ∧ (4 : U32).toNat ≤ run.cfg.k) ∧
    (0 : U32).toNat = 0 ∧ run.cfg.k < (5 : U32).toNat := by decide

theorem witness_Reads : run.seq = .idle ∧ (at' (.cb 3)).seq = .cb 3 ∧ (bareCommand 4).cw = 4 ∧ (bareCommand 5).cw = 5 ∧
    (bareCommand 6).cw = 6 ∧ (bareCommand 7).cw = 7 := by decide

theorem witness_CallbackDoneResumesTheScan : (at' (.cb 3)).seq = .cb 3 ∧ run.seq = .idle ∧ (bareCommand 8).cw = 8 := by decide

/-- RSV only, OP 0 only, and OP at 9. -/
theorem witness_IllegalWordFaults : run.seq = .idle ∧ (0x00000012 : U32).extractLsb' 4 28 ≠ 0 ∧
    (0x00000000 : U32).extractLsb' 0 4 = 0#4 ∧ 9 ≤ ((0x00000009 : U32).extractLsb' 0 4).toNat := by decide

theorem witness_TickStepT1 :
    (∃ s : State, s.seq = .idle ∧ s.ie = true ∧ s.m = true) ∧
    (∃ s : State, s.seq = .idle ∧ s.ie = true ∧ s.m = false ∧ s.cfg.spuriousIrq = true) :=
  ⟨⟨{ run with m := true }, rfl, rfl, rfl⟩, ⟨{ run with cfg := { Config.ex with spuriousIrq := true } }, rfl, rfl, rfl, rfl⟩⟩

theorem witness_TickSteps : (at' .t2).seq = .t2 ∧ (at' .t3).seq = .t3 ∧ (at' .t4).seq = .t4 ∧ (at' .t4b).seq = .t4b ∧
    (at' .t5).seq = .t5 ∧ (at' .t6).seq = .t6 ∧ (at' .t4).cfg.drift = .signedLE ∧
    ({ at' .t4 with cfg := { Config.ex with drift := .unsignedLT } } : State).cfg.drift = .unsignedLT := by decide

/-- The last slot, due with difference exactly 0; not due with difference 1; free. -/
theorem witness_ScanVisitsOneSlot :
    (∃ s : State, s.seq = .scan 3 ∧ 3 < s.cfg.k ∧ (s.slotAt 3).handler ≠ 0 ∧ ((s.slotAt 3).deadline - s.ticks).toInt ≤ 0) ∧
    (∃ s : State, s.seq = .scan 3 ∧ 3 < s.cfg.k ∧ 0 < ((s.slotAt 3).deadline - s.ticks).toInt) ∧
    (∃ s : State, s.seq = .scan 0 ∧ 0 < s.cfg.k ∧ (s.slotAt 0).handler = 0) :=
  ⟨⟨{ at' (.scan 3) with ticks := 4, slots := fullTable.slots }, by decide⟩,
    ⟨{ at' (.scan 3) with ticks := 3, slots := fullTable.slots }, by decide⟩, ⟨at' (.scan 0), by decide⟩⟩

theorem witness_ScanEndReturnsToIdle : (at' (.scan 4)).seq = .scan (at' (.scan 4)).cfg.k := by decide

theorem witness_InstructionOutOfTurnChangesNothing :
    (isCommand .t3 = false ∧ run.internalStep ≠ some .t3) ∧
    (isCommand .readTicks = true ∧ (at' .t3).seq ≠ .idle ∧ ∀ j, (at' .t3).seq ≠ .cb j) :=
  ⟨by decide, rfl, by decide, nofun⟩

/-- exec answers a next state, so a frame over it speaks of something; here T6's. -/
theorem witness_frames : ∃ t, exec .t6 (at' .t6) = .next t ∧ t.ticks = 1 ∧ t.secs = 0 := ⟨_, rfl, by decide, by decide⟩

/-- The frame of M: set before T5, cleared after; clear before a compare write under MATCH_ON_WRITE, set after. -/
theorem witness_ClockRegisterWriters :
    (∃ s t, exec .t5 s = .next t ∧ s.m = true ∧ t.m = false) ∧ (∃ s t, exec .t3 s = .next t ∧ s.m = false ∧ t.m = true) :=
  ⟨⟨{ at' .t5 with m := true }, _, rfl, rfl, rfl⟩,
    ⟨{ at' .t3 with cfg := { Config.ex with matchOnWrite := true }, nextCmp := 20000, cnt := 20000 }, _, rfl, rfl, rfl⟩⟩

/-- A step that changes slot 0, by each of the four ways. -/
theorem witness_SlotChangesOnlyByItsLifecycle :
    ((after (step { run with port := some ⟨2, 1, 7, 0, 0⟩, sched := [.command] })).map (·.slotAt 0) ≠ some (run.slotAt 0)) ∧
    ((after (step { fullTable with port := some ⟨3, 1, 0, 0, 0⟩, sched := [.command] })).map (·.slotAt 0) ≠
      some (fullTable.slotAt 0)) ∧
    ((after (step { fullTable with ticks := 1, seq := .scan 0, sched := [.block] })).map (·.slotAt 0) ≠
      some (fullTable.slotAt 0)) ∧
    ((after (step { fullTable with sched := [.reset ResetDraws.zero] })).map (·.slotAt 0) ≠ some (fullTable.slotAt 0)) := by
  decide

theorem witness_step_next : ∃ t, step { run with sched := [.clock] } = .next t ∧ t.cnt = 1 := ⟨_, rfl, by decide⟩

/-- A late T4 state that meets the drift invariant with a premise that is not empty. -/
theorem witness_CompareAheadOfTheCheckedCounter :
    (at' .t5).cfg.drift = .signedLE ∧ ({ at' .t5 with cmp := 1 } : State).DriftInv ∧
    ∃ t, step { at' .t5 with cmp := 1, sched := [.clock] } = .next t :=
  ⟨rfl, ⟨nofun, fun _ => by decide⟩, _, rfl⟩

theorem witness_HaltedIsLeftOnlyByReset :
    ∃ s t : State, s.seq = .halted ∧ turnIsReset s.nextTurn = false ∧ step s = .next t ∧ s.port = some (bareCommand 4) :=
  ⟨{ presenting 4 with seq := .halted, sched := [.command] }, _, rfl, rfl, rfl, rfl⟩

theorem witness_StickyBitsStayUntilReset :
    ∃ s t : State, turnIsReset s.nextTurn = false ∧ step s = .next t ∧ s.inited = false ∧ t.inited = true :=
  ⟨{ State.reset with seq := .i3, sched := [.block] }, _, rfl, rfl, rfl, rfl⟩

theorem witness_SpuriousFaultNeedsItsParameter :
    ∃ s t : State, s.cfg.spuriousIrq = false ∧ step s = .next t ∧ t.fault.getLsbD 1 = true :=
  ⟨{ run with fault := 2, sched := [.clock] }, _, rfl, rfl, rfl⟩

/-- One tick a count: TPI is 1 and every tick is a second. -/
def everyCount : Config := { Config.ex with clockHz := 1, hz := 1, k := 1 }

/-- INIT, one count, and T1 to T6 from reset. -/
def firstTick : State :=
  { State.resetOf everyCount ResetDraws.zero with
    sched := [.present (bareCommand 1), .icAnswer true, .command, .block, .block, .clock] ++ List.replicate 6 .block }

theorem witness_TicksAndSecondsCountTickSequences :
    ∃ t, Host.Core.run Sys2Proof.core 12 firstTick = .next t ∧ t6SinceReset 12 firstTick 0 = 1 ∧ t.ticks = 1 ∧ t.secs = 1 :=
  ⟨_, rfl, by decide, by decide, by decide⟩

/-- The T6 step that makes the hundredth tick, and the first second, at HZ = 100. -/
theorem witness_EveryStepKeepsTheTickCount :
    ({ at' .t6 with ticks := 99, sched := [.block] } : State).CountsT6 99 ∧
    countT6 { at' .t6 with ticks := 99, sched := [.block] } 99 = 100 ∧
    ∃ t, step { at' .t6 with ticks := 99, sched := [.block] } = .next t ∧ t.ticks = 100 ∧ t.secs = 1 :=
  ⟨⟨by decide, fun _ => by decide⟩, by decide, _, rfl, by decide, by decide⟩

/-- Delays 0, 2^31 and 2^31 + 1: the ends of R166's ranges. -/
theorem witness_TimerFirstDueAtItsDelay : (timer 5).handler ≠ 0 ∧ (timer 5).deadline = 5 + 0 ∧ (0 : U32).toNat ≤ 2 ^ 31 ∧
    (0x80000000 : U32).toNat ≤ 2 ^ 31 ∧ 2 ^ 31 + 1 ≤ (0x80000001 : U32).toNat := by decide

theorem witness_RegisterNeverAnswersALiveHandle :
    run.Inv ∧ run.seq = .idle ∧ ∃ t, exec (.register 3 0x1000 0 0) run = .next t ∧ t.rsp = .one 1 :=
  ⟨witness_run_Inv, rfl, _, rfl, by decide⟩

theorem witness_TableTakesKTimersAndNoMore :
    run.Inv ∧ run.seq = .idle ∧ (∀ i, (run.slotAt i).handler = 0) ∧
      (List.replicate 4 ((3, 0x1000, 0, 0) : U32 × Ref × Ref × Ref)).length = run.cfg.k ∧
      ∀ r ∈ List.replicate 4 ((3, 0x1000, 0, 0) : U32 × Ref × Ref × Ref), r.2.1 ≠ 0 := by
  refine ⟨witness_run_Inv, rfl, fun i => ?_, by decide, by decide⟩
  by_cases h : i < 4
  · exact (by decide : ∀ i < 4, (run.slotAt i).handler = 0) i h
  · rw [slotAt_of_length_le run i (by rw [witness_run_Inv.slots_length]; exact Nat.le_of_not_lt h)]
    rfl

/-- A scan about to start with the invariant: slots 0 and 3 of four due. -/
def scanning : State :=
  { at' (.scan 0) with ticks := 3, slots := [timer 3, timer 9, .zero, timer 1] }

theorem witness_ScanFiresDueSlotsInOrderAndEnds : scanning.Inv ∧ scanning.seq = .scan 0 ∧ scanning.port = none :=
  ⟨{ admitted := by decide
     slots_length := by decide
     slots_fit := by decide
     port_fits := nofun
     seq_legal := by decide
     ie_eq_inited := by decide
     inited_of_inTick := by decide
     not_inited_of_inInit := by decide
     fault_iff_halted := by decide
     fault_single := .inl (by decide) }, rfl, rfl⟩

/-- Both paths of the late test: V17's and V18's numbers. -/
theorem witness_TickSequenceTakesSixOrSevenSteps :
    (∃ s : State, s.cfg.admitted = true ∧ s.seq = .idle ∧ s.ie = true ∧ s.m = true ∧
      late s.cfg.drift (s.cmp + BitVec.ofNat 32 (s.cfg.clockHz / s.cfg.hz)) s.cnt = false) ∧
    (∃ s : State, s.cfg.admitted = true ∧ s.seq = .idle ∧ s.ie = true ∧ s.m = true ∧
      late s.cfg.drift (s.cmp + BitVec.ofNat 32 (s.cfg.clockHz / s.cfg.hz)) s.cnt = true) :=
  ⟨⟨{ run with m := true, cmp := 10000, cnt := 10003 }, by decide⟩, ⟨{ run with m := true, cmp := 10000, cnt := 25000 }, by decide⟩⟩

theorem witness_InitTakesThreeSteps :
    ∃ s : State, s.cfg.admitted = true ∧ s.seq = .idle ∧ s.inited = false ∧ s.port = some (bareCommand 1) ∧
      (bareCommand 1).cw = 1 ∧ s.icAnswer = some true ∧ s.cfg.initAck = true :=
  ⟨{ State.reset with port := some (bareCommand 1), icAnswer := some true }, by decide⟩

theorem witness_MatchComesExactlyAtTheDistance : State.reset.cfg.admitted = true ∧ State.reset.m = false ∧ 0 ≤ 2 ^ 32 := by decide

/-- INIT just accepted, at configuration EX: TPI is 10000, so one CLOCK step is fewer. -/
theorem witness_FirstTickNotBeforeTpiCounts :
    ∃ s t : State, s.Inv ∧ s.seq = .i2 ∧ s.cntLatch = s.cnt ∧ s.cfg.initAck = true ∧ s.cfg.matchOnWrite = false ∧
      s.cfg.spuriousIrq = false ∧ ([Turn.clock].filter turnIsClock).length < s.cfg.clockHz / s.cfg.hz ∧
      Host.Core.run Sys2Proof.core 1 { s with sched := [.clock] } = .next t :=
  ⟨{ State.reset with seq := .i2 }, _,
    { admitted := by decide
      slots_length := by decide
      slots_fit := by decide
      port_fits := nofun
      seq_legal := by decide
      ie_eq_inited := by decide
      inited_of_inTick := by decide
      not_inited_of_inInit := by decide
      fault_iff_halted := by decide
      fault_single := .inl (by decide) }, rfl, rfl, rfl, rfl, rfl, by decide, rfl⟩

/-- Two states that differ in the stale fields of slot 0 alone, and a step. -/
theorem witness_StaleSlotFieldsAreUnobservable :
    ∃ s s' t : State, s ≠ s' ∧ s.SameButStale s' ∧ step s = .next t := by
  refine ⟨{ run with sched := [.clock] },
    { run with sched := [.clock], slots := [{ Slot.zero with deadline := 7 }, .zero, .zero, .zero] }, _, by decide,
    ⟨rfl, fun i => ?_, rfl⟩, rfl⟩
  match i with
  | 0 => exact ⟨rfl, fun h => absurd h (by decide)⟩
  | 1 => exact ⟨rfl, fun h => absurd h (by decide)⟩
  | 2 => exact ⟨rfl, fun h => absurd h (by decide)⟩
  | 3 => exact ⟨rfl, fun h => absurd h (by decide)⟩
  | n + 4 => exact ⟨rfl, fun _ => rfl⟩

end Sys2Proof.Tests
end

section
/-!
PROOFS. The step taken apart: which turn it takes, what that turn runs, and when it is refused (O6, O7, O14).
-/

namespace Sys2Proof.Machine

open Sys2Proof

variable {s : State} {rest : List Turn}

/-- A step whose turn is decided takes that turn, at the state with the turn used up (R2, log 2). -/
theorem step_of_sched {u : Turn} (ha : s.cfg.admitted = true) (hs : s.sched = u :: rest) :
    step s = takeTurn u { s with sched := rest } := by
  rw [step_of_admitted ha, nextTurn_of_sched hs, dropTurn_of_sched hs]

theorem takeTurn_command_of_port {tx : Transaction} (hp : s.port = some tx) :
    takeTurn .command s = exec (decode tx) s := by
  simp only [takeTurn, hp]

theorem takeTurn_block_of_some {i : Instr} (hi : s.internalStep = some i) : takeTurn .block s = exec i s := by
  simp only [takeTurn, hi]

theorem takeTurn_block_of_none (hi : s.internalStep = none) : takeTurn .block s = .next s := by
  simp only [takeTurn, hi]

/-- The sequencer selects its step without looking at the schedule (R28). -/
theorem internalStep_sched : ({ s with sched := rest } : State).internalStep = s.internalStep := rfl

/-- Every turn answers a next state: an instruction always does, and the other agents' acts cannot fail. -/
theorem takeTurn_answers (u : Turn) (s : State) : ∃ t, takeTurn u s = .next t := by
  cases u with
  | clock => exact ⟨_, rfl⟩
  | block =>
    cases hi : s.internalStep with
    | none => exact ⟨s, takeTurn_block_of_none hi⟩
    | some i =>
      obtain ⟨t, ht⟩ := exec_answers i s
      exact ⟨t, (takeTurn_block_of_some hi).trans ht⟩
  | command =>
    cases hp : s.port with
    | none => exact ⟨s, by simp only [takeTurn, hp]⟩
    | some tx =>
      obtain ⟨t, ht⟩ := exec_answers (decode tx) s
      exact ⟨t, (takeTurn_command_of_port hp).trans ht⟩
  | present tx => exact ⟨_, rfl⟩
  | icAnswer a => exact ⟨_, rfl⟩
  | reset d => exact ⟨_, rfl⟩

theorem step_answers_of_admitted (ha : s.cfg.admitted = true) : ∃ t, step s = .next t := by
  rw [step_of_admitted ha]
  exact takeTurn_answers _ _

theorem step_refused_of_not_admitted (ha : ¬ s.cfg.admitted = true) :
    step s = .refused .configurationNotAdmitted := if_neg ha

/-- Only the configuration refuses a step (R6). -/
theorem step_refused_iff : step s = .refused .configurationNotAdmitted ↔ ¬ s.cfg.admitted = true := by
  refine ⟨fun h ha => ?_, step_refused_of_not_admitted⟩
  obtain ⟨t, ht⟩ := step_answers_of_admitted ha
  exact nomatch ht.symm.trans h

/-- Settles O14: a step is refused exactly by the test of R6's bounds. -/
theorem configurationOutsideBoundsIsRefused : Obligations.ConfigurationOutsideBoundsIsRefused := by
  intro s
  rw [step_refused_iff, admitted_iff]

/-- Settles O6: the decided turn is the command turn, and that turn performs what the port holds. -/
theorem stepRunsTheDecodedCommand : Obligations.StepRunsTheDecodedCommand := by
  intro s tx rest ha hs hp
  rw [step_of_sched ha hs]
  exact takeTurn_command_of_port hp

/-- Settles O7: the decided turn is the BLOCK's, and using it up does not change which step is selected. -/
theorem stepRunsTheSequencersStep : Obligations.StepRunsTheSequencersStep := by
  intro s rest ha hs
  rw [step_of_sched ha hs]
  exact ⟨fun i hi => takeTurn_block_of_some (internalStep_sched.trans hi),
    fun hi => takeTurn_block_of_none (internalStep_sched.trans hi)⟩

end Sys2Proof.Machine
end

section
/-!
PROOFS. What fits its wires: references, slots, transactions, and the instructions that the port and the sequencer give.
-/

namespace Sys2Proof

theorem fitsRef_zero (c : Config) : c.fitsRef 0 = true := by
  simp [Config.fitsRef]

theorem fitsRef_mod (c : Config) (r : Ref) : c.fitsRef (r % 2 ^ c.refW) = true := by
  simp [Config.fitsRef, Nat.mod_lt]

/-- What the wires carry fits them (R80). -/
theorem onWires_wf (c : Config) (tx : Transaction) : (tx.onWires c.refW).wf c = true := by
  simp only [Transaction.wf, Transaction.onWires, fitsRef_mod, Bool.and_self]

/-- The OP of a legal word is one of the eight of R83, so `decode`'s last arm is never taken. -/
theorem cwOp_of_wordIsLegal {cw : U32} (h : wordIsLegal cw = true) : 1 ≤ (cwOp cw).toNat ∧ (cwOp cw).toNat ≤ 8 := by
  obtain ⟨-, h0, h9⟩ := (wordIsLegal_iff cw).mp h
  have hz : (cwOp cw).toNat ≠ 0 := fun hz => h0 (BitVec.eq_of_toNat_eq hz)
  omega

/-- A transaction that fits the port decodes to a well-formed instruction (R82, R84). -/
theorem decode_wf {c : Config} {tx : Transaction} (h : tx.wf c = true) : (decode tx).wf c = true := by
  unfold decode
  split
  · next hl =>
    have hop := cwOp_of_wordIsLegal hl
    split
    case h_2 => exact h
    case h_9 => grind
    all_goals rfl
  · next hl => simpa only [Instr.wf, ← wordIsLegal_iff_legalWord, Bool.not_eq_true', Bool.not_eq_true] using hl

namespace Machine

/-- The sequencer selects SCAN(i) only below K (R28). -/
theorem internalStep_wf {s : State} {i : Instr} (h : s.internalStep = some i) : i.wf s.cfg = true := by
  unfold State.internalStep at h
  split at h
  case h_1 => split at h <;> cases h; rfl
  case h_10 j hj =>
    split at h
    · next hk => cases h; exact decide_eq_true hk
    · split at h <;> cases h; rfl
  all_goals cases h <;> rfl

theorem Slot.fits_iff (c : Config) (slot : Slot) : slot.fits c = true ↔
    c.fitsRef slot.handler = true ∧ c.fitsRef slot.param = true ∧ c.fitsRef slot.context = true := by
  simp only [Slot.fits, Bool.and_eq_true, and_assoc]

theorem Slot.zero_fits (c : Config) : Slot.zero.fits c = true := by
  simp [Slot.fits_iff, Slot.zero, fitsRef_zero]

/-- What a well-formed REGISTER writes fits, whatever the deadline (R140). -/
theorem Slot.fits_of_register_wf {c : Config} {delayTicks deadline : U32} {handler param context : Ref}
    (h : (Instr.register delayTicks handler param context).wf c = true) :
    ({ handler := handler, deadline := deadline, param := param, context := context } : Slot).fits c = true := h

/-- A slot still fits once it is freed (R37). -/
theorem Slot.freed_fits {c : Config} {slot : Slot} (h : slot.fits c = true) :
    ({ slot with handler := 0 } : Slot).fits c = true := by
  obtain ⟨-, hp, hc⟩ := (Slot.fits_iff c slot).mp h
  exact (Slot.fits_iff _ _).mpr ⟨fitsRef_zero c, hp, hc⟩

theorem Slot.atReset_fits (c : Config) (stale : Stale) : (Slot.atReset c.refW stale).fits c = true :=
  (Slot.fits_iff _ _).mpr ⟨fitsRef_zero c, fitsRef_mod c _, fitsRef_mod c _⟩

theorem slotsAtReset_length (c : Config) (stale : List Stale) : (slotsAtReset c stale).length = c.k := by
  simp [slotsAtReset]

theorem slotsAtReset_fit (c : Config) (stale : List Stale) : ∀ slot ∈ slotsAtReset c stale, slot.fits c = true := by
  intro slot hslot
  obtain ⟨i, -, rfl⟩ := List.mem_map.mp hslot
  exact Slot.atReset_fits c _

end Machine

end Sys2Proof
end

section
/-!
PROOFS. The invariant under each of the state's operations, one rule per operation, and from these every step (O43).
-/

namespace Sys2Proof.Machine

open Sys2Proof

/-! ## Fault bits and classes of sequencer values -/

theorem FaultCode.bit_ne_zero (code : FaultCode) : code.bit ≠ 0 := by
  cases code <;> decide

theorem Seq.accepts_ne_halted {q : Seq} (h : q.accepts = true) : q ≠ .halted := by
  rintro rfl; cases h

theorem Seq.inTick_ne_halted {q : Seq} (h : q.inTick = true) : q ≠ .halted := by
  rintro rfl; cases h

theorem Seq.inTick_not_inInit {q : Seq} (h : q.inTick = true) : q.inInit = false := by
  cases q with
  | i2 | i3 => cases h
  | _ => rfl

/-! ## Operations on fields the invariant does not read -/

/-- The fields the invariant reads. -/
def State.invView (s : State) : Config × List Slot × Option Transaction × Seq × Bool × Bool × BitVec 6 :=
  (s.cfg, s.slots, s.port, s.seq, s.ie, s.inited, s.fault)

namespace State.Inv

variable {s t : State}

/-- A state that shows the same of these fields has the invariant too. -/
theorem of_invView_eq (hs : s.Inv) (h : t.invView = s.invView) : t.Inv := by
  obtain ⟨hcfg, hslots, hport, hseq, hie, hinited, hfault⟩ :
      t.cfg = s.cfg ∧ t.slots = s.slots ∧ t.port = s.port ∧ t.seq = s.seq ∧ t.ie = s.ie ∧ t.inited = s.inited ∧
        t.fault = s.fault := by
    simpa only [State.invView, Prod.mk.injEq] using h
  constructor <;> simp only [hcfg, hslots, hport, hseq, hie, hinited, hfault]
  exacts [hs.admitted, hs.slots_length, hs.slots_fit, hs.port_fits, hs.seq_legal, hs.ie_eq_inited,
    hs.inited_of_inTick, hs.not_inited_of_inInit, hs.fault_iff_halted, hs.fault_single]

theorem dropTurn (hs : s.Inv) : s.dropTurn.Inv := hs.of_invView_eq rfl
theorem clockAdvance (hs : s.Inv) : s.clockAdvance.Inv := hs.of_invView_eq rfl
theorem icSettles (hs : s.Inv) (a : Bool) : (s.icSettles a).Inv := hs.of_invView_eq rfl
theorem dropIcAnswer (hs : s.Inv) : s.dropIcAnswer.Inv := hs.of_invView_eq rfl
theorem emit (hs : s.Inv) (e : Event) : (s.emit e).Inv := hs.of_invView_eq rfl
theorem respond (hs : s.Inv) (r : Response) : (s.respond r).Inv := hs.of_invView_eq rfl
theorem latchCnt (hs : s.Inv) (v : U32) : (s.latchCnt v).Inv := hs.of_invView_eq rfl
theorem latchNextCmp (hs : s.Inv) (v : U32) : (s.latchNextCmp v).Inv := hs.of_invView_eq rfl
theorem memWriteCmp (hs : s.Inv) (v : U32) : (s.memWriteCmp v).Inv := hs.of_invView_eq rfl
theorem ackStatus (hs : s.Inv) : s.ackStatus.Inv := hs.of_invView_eq rfl
theorem advanceClock (hs : s.Inv) : s.advanceClock.Inv := hs.of_invView_eq rfl

/-! ## The port -/

theorem beginCommand (hs : s.Inv) : s.beginCommand.Inv := { hs with port_fits := nofun }

theorem hostPresents (hs : s.Inv) (tx : Transaction) : (s.hostPresents tx).Inv where
  __ := hs
  port_fits := by
    intro tx' h
    obtain rfl := Option.some.inj h
    cases hp : s.port with
    | none => exact onWires_wf s.cfg tx
    | some held => exact hs.port_fits held hp

/-! ## The table -/

theorem slotAt_fits (hs : s.Inv) (i : Nat) : (s.slotAt i).fits s.cfg = true := by
  rcases lt_or_ge i s.slots.length with hi | hi
  · rw [slotAt_eq_getElem s i hi]
    exact hs.slots_fit _ (List.getElem_mem hi)
  · rw [slotAt_of_length_le s i hi]
    exact Slot.zero_fits s.cfg

theorem setSlot (hs : s.Inv) (i : Nat) {slot : Slot} (hf : slot.fits s.cfg = true) : (s.setSlot i slot).Inv where
  __ := hs
  slots_length := by simpa using hs.slots_length
  slots_fit := by
    intro slot' hmem
    rcases List.mem_or_eq_of_mem_set hmem with hold | rfl
    · exact hs.slots_fit slot' hold
    · exact hf

theorem freeSlot (hs : s.Inv) (i : Nat) : (s.freeSlot i).Inv := hs.setSlot i (Slot.freed_fits (hs.slotAt_fits i))

/-! ## The sequencer -/

theorem fault_eq_zero (hs : s.Inv) (hl : s.seq ≠ .halted) : s.fault = 0 := hs.fault_iff_halted.mpr hl

/-- A running block may go to a legal running state of the phase INITED gives it. -/
theorem goto (hs : s.Inv) {q : Seq} (hl : s.seq ≠ .halted) (hq : q ≠ .halted) (hk : q.legal s.cfg.k = true)
    (htick : q.inTick = true → s.inited = true) (hinit : q.inInit = true → s.inited = false) : (s.goto q).Inv where
  __ := hs
  seq_legal := hk
  inited_of_inTick := htick
  not_inited_of_inInit := hinit
  fault_iff_halted := iff_of_true (hs.fault_eq_zero hl) hq

theorem goto_idle (hs : s.Inv) (hl : s.seq ≠ .halted) : (s.goto .idle).Inv := hs.goto hl nofun rfl nofun nofun

/-- Entering the tick sequence, or moving within it. -/
theorem goto_inTick (hs : s.Inv) {q : Seq} (hl : s.seq ≠ .halted) (hi : s.inited = true) (hq : q.inTick = true)
    (hk : q.legal s.cfg.k = true) : (s.goto q).Inv :=
  hs.goto hl (Seq.inTick_ne_halted hq) hk (fun _ => hi) fun h => absurd h (by simp [Seq.inTick_not_inInit hq])

/-- Moving within the tick sequence. -/
theorem goto_of_inTick (hs : s.Inv) {p q : Seq} (hp : s.seq = p) (ht : p.inTick = true) (hq : q.inTick = true)
    (hk : q.legal s.cfg.k = true) : (s.goto q).Inv :=
  hs.goto_inTick (hp ▸ Seq.inTick_ne_halted ht) (hs.inited_of_inTick (hp ▸ ht)) hq hk

/-- Entering INIT's steps, or moving within them. -/
theorem goto_inInit (hs : s.Inv) {q : Seq} (hl : s.seq ≠ .halted) (hi : s.inited = false) (hq : q = .i2 ∨ q = .i3) :
    (s.goto q).Inv := by
  rcases hq with rfl | rfl <;> exact hs.goto hl nofun rfl nofun fun _ => hi

/-- I3's enabling: IE and INITED are set together as INIT is left (R185). -/
theorem enable_goto_idle (hs : s.Inv) (hl : s.seq ≠ .halted) : (s.enable.goto .idle).Inv where
  __ := hs
  seq_legal := rfl
  ie_eq_inited := rfl
  inited_of_inTick := nofun
  not_inited_of_inInit := nofun
  fault_iff_halted := iff_of_true (hs.fault_eq_zero hl) nofun

/-- A fault in a running block: FAULT was 0, so it holds the one bit now (R30, R200). -/
theorem raiseFault (hs : s.Inv) (code : FaultCode) (hl : s.seq ≠ .halted) : (s.raiseFault code).Inv := by
  have hbit : (s.raiseFault code).fault = code.bit := by simp [hs.fault_eq_zero hl]
  exact { hs with
    seq_legal := rfl
    inited_of_inTick := nofun
    not_inited_of_inInit := nofun
    fault_iff_halted := iff_of_false (hbit ▸ code.bit_ne_zero) (fun h => h rfl)
    fault_single := .inr ⟨code, hbit⟩ }

/-- T1 needs IE, so INIT is done where T1 is enabled (R27, R100). -/
theorem inited_of_t1Enabled (hs : s.Inv) (h : s.t1Enabled = true) : s.inited = true := by
  obtain ⟨-, hie, -⟩ := (t1Enabled_iff s).mp h
  exact hs.ie_eq_inited ▸ hie

theorem fire (hs : s.Inv) {i : Nat} (hq : s.seq = .scan i) (hi : i < s.cfg.k) : (s.fire i).Inv :=
  ((hs.freeSlot i).emit _).goto_of_inTick hq rfl rfl (decide_eq_true hi)

end State.Inv

/-! ## Reset -/

/-- The state after reset has the invariant, for every admitted configuration and every draw (R38, R240). -/
theorem resetOf_inv {c : Config} (hc : c.admitted = true) (d : ResetDraws) : (State.resetOf c d).Inv where
  admitted := hc
  slots_length := slotsAtReset_length c d.stale
  slots_fit := slotsAtReset_fit c d.stale
  port_fits := nofun
  seq_legal := rfl
  ie_eq_inited := rfl
  inited_of_inTick := nofun
  not_inited_of_inInit := nofun
  fault_iff_halted := iff_of_true rfl nofun
  fault_single := .inl rfl

/-- Reset keeps the transaction the HOST presents, which fitted the port (log 9). -/
theorem State.Inv.applyReset {s : State} (hs : s.Inv) (d : ResetDraws) : (s.applyReset d).Inv where
  __ := resetOf_inv hs.admitted d
  port_fits := hs.port_fits

/-! ## Instructions, turns and steps -/

/-- Every instruction keeps the invariant; only REGISTER's references, which it stores, need to be well-formed. -/
theorem ExecNext.inv {s t : State} {i : Instr} (h : ExecNext s i t) (hs : s.Inv) (hi : i.wf s.cfg = true) : t.Inv := by
  cases h with
  | same => exact hs
  | commandFault _ code ha => exact hs.beginCommand.raiseFault code (Seq.accepts_ne_halted ha)
  | initAccepted hq hn => exact (hs.beginCommand.dropIcAnswer.latchCnt _).goto_inInit (by simp [hq]) hn (.inl rfl)
  | initRefused hq => exact hs.beginCommand.dropIcAnswer.raiseFault _ (by simp [hq])
  | tableFull => exact (hs.beginCommand.emit _).respond _
  | slotFilled _ _ _ _ j => exact (hs.beginCommand.setSlot j (Slot.fits_of_register_wf hi)).respond _
  | cancelled => exact hs.beginCommand.freeSlot _
  | readDone => exact hs.beginCommand.respond _
  | callbackReturned j hq =>
    have hj : j < s.cfg.k := by simpa [hq, Seq.legal] using hs.seq_legal
    exact hs.beginCommand.goto_of_inTick hq rfl rfl (decide_eq_true hj)
  | t1Entered he =>
    obtain ⟨hq, -⟩ := (t1Enabled_iff s).mp he
    exact hs.goto_inTick (by simp [hq]) (hs.inited_of_t1Enabled he) rfl rfl
  | t1Spurious he =>
    obtain ⟨hq, -⟩ := (t1Enabled_iff s).mp he
    exact hs.raiseFault _ (by simp [hq])
  | t2 hq => exact (hs.latchNextCmp _).goto_of_inTick hq rfl rfl rfl
  | t3 hq => exact (hs.memWriteCmp _).goto_of_inTick hq rfl rfl rfl
  | t4Late hq => exact (hs.latchCnt _).goto_of_inTick hq rfl rfl rfl
  | t4NotLate hq => exact (hs.latchCnt _).goto_of_inTick hq rfl rfl rfl
  | t4b hq => exact (hs.memWriteCmp _).goto_of_inTick hq rfl rfl rfl
  | t5 hq => exact hs.ackStatus.goto_of_inTick hq rfl rfl rfl
  | t6 hq => exact hs.advanceClock.goto_of_inTick hq rfl rfl (decide_eq_true (Nat.zero_le s.cfg.k))
  | i2 hq =>
    have hn : s.inited = false := hs.not_inited_of_inInit (by simp [hq, Seq.inInit])
    exact (hs.memWriteCmp _).goto_inInit (by simp [hq]) hn (.inr rfl)
  | i3Ack hq => exact hs.ackStatus.enable_goto_idle (by simp [hq])
  | i3NoAck hq => exact hs.enable_goto_idle (by simp [hq])
  | slotFired j hq hj => exact hs.fire hq hj
  | slotPassed j hq hj => exact hs.goto_of_inTick hq rfl rfl (decide_eq_true hj)
  | scanEnded hq => exact hs.goto_idle (by simp [hq])

theorem exec_keeps_inv {i : Instr} {s t : State} (hs : s.Inv) (hi : i.wf s.cfg = true) (h : exec i s = .next t) :
    t.Inv := (exec_next h).inv hs hi

/-- Every turn keeps the invariant: the instructions it runs come well-formed from the sequencer or from the port. -/
theorem takeTurn_keeps_inv {u : Turn} {s t : State} (hs : s.Inv) (h : takeTurn u s = .next t) : t.Inv := by
  rcases takeTurn_next h with ⟨-, rfl⟩ | ⟨-, i, hi, hx⟩ | ⟨-, -, rfl⟩ | ⟨-, tx, hp, hx⟩ | ⟨-, -, rfl⟩ | ⟨tx, -, rfl⟩ |
    ⟨a, -, rfl⟩ | ⟨d, -, rfl⟩
  · exact hs.clockAdvance
  · exact exec_keeps_inv hs (internalStep_wf hi) hx
  · exact hs
  · exact exec_keeps_inv hs (decode_wf (hs.port_fits tx hp)) hx
  · exact hs
  · exact hs.hostPresents tx
  · exact hs.icSettles a
  · exact hs.applyReset d

/-- Settles O43: choosing the turn changes no field of the invariant, and every turn keeps it. -/
theorem invariantKeptByEveryStep : Obligations.InvariantKeptByEveryStep := by
  intro s t hs h
  obtain ⟨-, hturn⟩ := step_next h
  exact takeTurn_keeps_inv hs.dropTurn hturn

end Sys2Proof.Machine
end

section
/-!
PROOFS. What the sequencer and the port give to `exec`, and what one step can be, said once over the turns (O8).
-/

namespace Sys2Proof.Machine

open Sys2Proof

variable {s t : State}

/-! ## The selected step -/

theorem internalStep_of_idle (h : s.seq = .idle) : s.internalStep =
    if s.ie = true ∧ (s.m = true ∨ s.cfg.spuriousIrq = true) then some .t1 else none := by
  simp only [State.internalStep, h, t1Enabled_iff, true_and]

theorem internalStep_of_scan {i : Nat} (h : s.seq = .scan i) (hi : i < s.cfg.k) :
    s.internalStep = some (.scan i) := by
  simp only [State.internalStep, h, hi, if_true]

theorem internalStep_of_scan_end (h : s.seq = .scan s.cfg.k) : s.internalStep = some .scanK := by
  simp only [State.internalStep, h, lt_irrefl, if_false, if_true]

theorem internalStep_of_t6 (h : s.seq = .t6) : s.internalStep = some .t6 := by
  simp only [State.internalStep, h]

/-- Settles O8: IDLE and SCAN(i) ask a condition, and every other state selects by its name alone. -/
theorem sequencerStateSelectsTheStep : Obligations.SequencerStateSelectsTheStep := by
  intro s
  refine ⟨internalStep_of_idle, fun h => ?_, fun h => ?_, fun h => ?_, fun h => ?_, fun h => ?_, fun h => ?_,
    fun h => ?_, internalStep_of_t6, fun i => internalStep_of_scan, internalStep_of_scan_end, fun i h => ?_, fun h => ?_⟩
  all_goals simp only [State.internalStep, h]

/-! ## Commands and internal steps -/

/-- The sequencer never selects a command (R28). -/
theorem internalStep_not_isCommand {i : Instr} (h : s.internalStep = some i) : isCommand i = false := by
  unfold State.internalStep at h
  split at h
  case h_1 => split at h <;> cases h; rfl
  case h_10 =>
    split at h
    · cases h; rfl
    · split at h <;> cases h; rfl
  all_goals cases h <;> rfl

/-- No transaction decodes to a step of the sequencer (R89). -/
theorem decode_isCommand (tx : Transaction) : isCommand (decode tx) = true := by
  unfold decode
  split
  · split <;> rfl
  · rfl

/-! ## One step -/

/-- What a step can answer: the selected internal step, the command at the port, a reset, or a turn in which the block does
nothing, so that only the CLOCK's CNT and M, the port and the model's own fields may differ. -/
inductive StepNext (s : State) : State → Prop
  | selected (i : Instr) (t : State) : s.nextTurn = .block → s.internalStep = some i → exec i s.dropTurn = .next t →
      StepNext s t
  | performed (tx : Transaction) (t : State) : s.nextTurn = .command → s.port = some tx →
      exec (decode tx) s.dropTurn = .next t → StepNext s t
  | wasReset (d : ResetDraws) : s.nextTurn = .reset d → StepNext s (s.dropTurn.applyReset d)
  | blockIdle (cnt : U32) (m : Bool) (port : Option Transaction) (icAnswer : Option Bool) :
      turnIsReset s.nextTurn = false → (s.nextTurn = .block → s.internalStep = none) →
      StepNext s { s.dropTurn with cnt := cnt, m := m, port := port, icAnswer := icAnswer }

theorem step_stepNext (h : step s = .next t) : StepNext s t := by
  obtain ⟨-, hturn⟩ := step_next h
  rcases takeTurn_next hturn with ⟨hu, rfl⟩ | ⟨hu, i, hi, hx⟩ | ⟨hu, hi, rfl⟩ | ⟨hu, tx, hp, hx⟩ | ⟨hu, -, rfl⟩ |
    ⟨tx, hu, rfl⟩ | ⟨a, hu, rfl⟩ | ⟨d, hu, rfl⟩
  · exact .blockIdle _ _ _ _ (by rw [hu]; rfl) (by simp [hu])
  · exact .selected i t hu hi hx
  · exact .blockIdle _ _ _ _ (by rw [hu]; rfl) fun _ => hi
  · exact .performed tx t hu hp hx
  · exact .blockIdle _ _ _ _ (by rw [hu]; rfl) (by simp [hu])
  · exact .blockIdle _ _ _ _ (by rw [hu]; rfl) (by simp [hu])
  · exact .blockIdle _ _ _ _ (by rw [hu]; rfl) (by simp [hu])
  · exact .wasReset d hu

end Sys2Proof.Machine
end

section
/-!
PROOFS. The state that reset leaves, the CLOCK's turn, and the bits of STATUS (O9, O13, O44, O49).
-/

namespace Sys2Proof.Machine

open Sys2Proof

variable {s : State}

/-- Settles O9: the turn used up and the CLOCK's advance are the two updates of the statement. -/
theorem clockTurnAdvancesAndMatches : Obligations.ClockTurnAdvancesAndMatches := by
  intro s rest ha hs
  rw [step_of_sched ha hs]
  have hm : (s.m || s.cnt + 1 == s.cmp) = if s.cnt + 1 = s.cmp then true else s.m := by
    by_cases he : s.cnt + 1 = s.cmp
    · rw [if_pos he, beq_iff_eq.mpr he, Bool.or_true]
    · rw [if_neg he, beq_eq_false_iff_ne.mpr he, Bool.or_false]
  rw [← hm]
  rfl

/-! ## STATUS -/

theorem Seq.busy_iff (q : Seq) : q.busy = true ↔ q = .i2 ∨ q = .i3 ∨ q = .t2 ∨ q = .t3 ∨ q = .t4 ∨ q = .t4b ∨
    q = .t5 ∨ q = .t6 ∨ ∃ i, q = .scan i := by
  cases q <;> simp [Seq.busy]

theorem Seq.inCallback_iff (q : Seq) : q.inCallback = true ↔ ∃ i, q = .cb i := by
  cases q <;> simp [Seq.inCallback]

theorem Seq.isHalted_iff (q : Seq) : q.isHalted = true ↔ q = .halted := by
  cases q <;> simp [Seq.isHalted]

/-- The low byte of STATUS, bit by bit (R31). -/
theorem status_getLsbD_low (s : State) {b : Nat} (hb : b < 8) : s.status.getLsbD b =
    if b = 0 then s.inited else if b = 1 then s.ie else if b = 2 then s.seq.busy else if b = 3 then s.seq.inCallback
    else if b = 4 then s.seq.isHalted else false := by
  simp only [State.status, BitVec.getLsbD_append, BitVec.getLsbD_ofBool, BitVec.getLsbD_zero]
  interval_cases b <;> simp

/-- From bit 8 up STATUS is FAULT, and 0 above it (R31). -/
theorem status_getLsbD_high (s : State) (c : Nat) : s.status.getLsbD (c + 8) = s.fault.getLsbD c := by
  simp only [State.status, BitVec.getLsbD_append, BitVec.getLsbD_ofBool, BitVec.getLsbD_zero]
  simpa using BitVec.lt_of_getLsbD (x := s.fault) (i := c)

theorem status_eq_zero (hi : s.inited = false) (he : s.ie = false) (hq : s.seq = .idle) (hf : s.fault = 0) :
    s.status = 0 := by
  simp only [State.status, hi, he, hq, hf]
  rfl

/-- Settles O49. -/
theorem statusWordLayout : Obligations.StatusWordLayout := by
  refine ⟨fun c d => status_eq_zero rfl rfl rfl rfl, fun s => ?_⟩
  refine ⟨status_getLsbD_low s (by decide), status_getLsbD_low s (by decide), ?_, ?_, ?_, fun b h5 h7 => ?_,
    fun b _ => ?_, fun b hb => ?_⟩
  · rw [status_getLsbD_low s (by decide)]
    exact s.seq.busy_iff
  · rw [status_getLsbD_low s (by decide)]
    exact s.seq.inCallback_iff
  · rw [status_getLsbD_low s (by decide)]
    exact s.seq.isHalted_iff
  · rw [status_getLsbD_low s (by omega)]
    interval_cases b <;> rfl
  · rw [Nat.add_comm, status_getLsbD_high]
  · obtain ⟨c, rfl⟩ := Nat.exists_eq_add_of_le' hb
    exact (status_getLsbD_high s (c + 6)).trans (BitVec.getLsbD_of_ge _ _ (by omega))

/-! ## Reset -/

/-- Settles O44: `State.reset` is one of the reset states, its configuration an admitted one. -/
theorem everyResetStateMeetsTheInvariant : Obligations.EveryResetStateMeetsTheInvariant :=
  ⟨fun _ d hc => resetOf_inv hc d, resetOf_inv (by decide) ResetDraws.zero⟩

theorem slotAt_applyReset_handler (s : State) (d : ResetDraws) (i : Nat) : ((s.applyReset d).slotAt i).handler = 0 := by
  rcases lt_or_ge i (s.applyReset d).slots.length with hi | hi
  · rw [slotAt_eq_getElem _ i hi]
    simp [slotsAtReset, Slot.atReset]
  · rw [slotAt_of_length_le _ i hi]
    rfl

/-- Settles O13: the fields of the reset state are read off, and the table's by its length and its handlers. -/
theorem resetTurnGivesTheResetState : Obligations.ResetTurnGivesTheResetState := by
  intro s d rest ha hs
  refine ⟨_, step_of_sched ha hs, rfl, rfl, rfl, slotsAtReset_length s.cfg d.stale, slotAt_applyReset_handler _ d, rfl, rfl,
    rfl, rfl, rfl, rfl, rfl, rfl, rfl, rfl, rfl, rfl, rfl, status_eq_zero rfl rfl rfl rfl⟩

end Sys2Proof.Machine
end

section
/-!
PROOFS. Which instruction writes which register: what `exec` changes and what it leaves unchanged (O38, O40, O41).
-/

namespace Sys2Proof.Machine

open Sys2Proof

variable {s t : State} {i : Instr}

theorem exec_cfg (h : exec i s = .next t) : t.cfg = s.cfg := by
  cases exec_next h <;> rfl

/-- T6 in its turn is the one instruction that writes the time counters (R20, R21). -/
theorem exec_timeCounters (h : exec i s = .next t) :
    (i = .t6 ∧ s.seq = .t6 ∧ t = s.advanceClock.goto (.scan 0)) ∨ (t.ticks = s.ticks ∧ t.secs = s.secs) := by
  cases exec_next h with
  | t6 hq => exact .inl ⟨rfl, hq, rfl⟩
  | _ => exact .inr ⟨rfl, rfl⟩

theorem advanceClock_secs_cases (s : State) : s.advanceClock.secs = s.secs ∨ s.advanceClock.secs = s.secs + 1 := by
  rw [State.advanceClock_secs]
  split
  · exact .inr rfl
  · exact .inl rfl

/-- Settles O38: the writer of the counters is T6, and R120 says what it adds. -/
theorem onlyT6WritesTheTimeCounters : Obligations.OnlyT6WritesTheTimeCounters := by
  intro i s t h
  rcases exec_timeCounters h with ⟨hi, hq, rfl⟩ | hsame
  · exact .inl ⟨hi, hq, rfl, advanceClock_secs_cases s⟩
  · exact .inr hsame

/-- A compare write that raises M is one under MATCH_ON_WRITE, of the counter's value (R62). -/
theorem memWriteCmp_m_rises {v : U32} (hs : s.m = false) (h : (s.memWriteCmp v).m = true) :
    s.cfg.matchOnWrite = true ∧ v = s.cnt := by
  simpa [hs] using h

theorem memWriteCmp_m_keeps (s : State) (v : U32) (hs : s.m = true) : (s.memWriteCmp v).m = true := by
  simp [hs]

/-- An instruction either leaves CMP and M alone, writes CMP by MemWrite, or clears M by AckStatus (R61 to R63). -/
theorem exec_clockRegisters (h : exec i s = .next t) : t.cnt = s.cnt ∧
    ((t.cmp = s.cmp ∧ t.m = s.m) ∨
      ((i = .t3 ∨ i = .t4b ∨ i = .i2) ∧ ∃ v, t.cmp = v ∧ t.m = (s.memWriteCmp v).m) ∨
      ((i = .t5 ∨ i = .i3 ∧ s.cfg.initAck = true) ∧ t.cmp = s.cmp ∧ t.m = false)) := by
  cases exec_next h with
  | t3 => exact ⟨rfl, .inr (.inl ⟨.inl rfl, _, rfl, rfl⟩)⟩
  | t4b => exact ⟨rfl, .inr (.inl ⟨.inr (.inl rfl), _, rfl, rfl⟩)⟩
  | i2 => exact ⟨rfl, .inr (.inl ⟨.inr (.inr rfl), _, rfl, rfl⟩)⟩
  | t5 => exact ⟨rfl, .inr (.inr ⟨.inl rfl, rfl, rfl⟩)⟩
  | i3Ack _ hack => exact ⟨rfl, .inr (.inr ⟨.inr ⟨rfl, hack⟩, rfl, rfl⟩)⟩
  | _ => exact ⟨rfl, .inl ⟨rfl, rfl⟩⟩

/-- Settles O40: a compare write can only raise M, an acknowledge only clear it. -/
theorem clockRegisterWriters : Obligations.ClockRegisterWriters := by
  intro i s t h
  obtain ⟨hcnt, ⟨hcmp, hm⟩ | ⟨hi, v, hv, hm⟩ | ⟨hi, hcmp, hm⟩⟩ := exec_clockRegisters h
  · exact ⟨hcnt, .inl hcmp, fun h1 h0 => by simp [hm, h1] at h0, fun h0 h1 => by simp [hm, h0] at h1⟩
  · refine ⟨hcnt, .inr hi, fun h1 h0 => ?_, fun h0 h1 => ?_⟩
    · simp [hm, h1] at h0
    · obtain ⟨hmow, hvcnt⟩ := memWriteCmp_m_rises h0 (hm ▸ h1)
      exact ⟨hmow, hv.trans hvcnt, hi⟩
  · exact ⟨hcnt, .inl hcmp, fun _ _ => hi, fun _ h1 => by simp [hm] at h1⟩

theorem exec_nextCmp (h : exec i s = .next t) : t.nextCmp = s.nextCmp ∨ i = .t2 := by
  cases exec_next h with
  | t2 => exact .inr rfl
  | _ => exact .inl rfl

theorem exec_cntLatch (h : exec i s = .next t) : t.cntLatch = s.cntLatch ∨ i = .init ∨ i = .t4 := by
  cases exec_next h with
  | initAccepted => exact .inr (.inl rfl)
  | t4Late | t4NotLate => exact .inr (.inr rfl)
  | _ => exact .inl rfl

/-- INITED and IE are written by I3 alone, in its turn, and both to 1 (R26, R27). -/
theorem exec_enables (h : exec i s = .next t) : (t.inited = s.inited ∧ t.ie = s.ie) ∨
    (i = .i3 ∧ s.seq = .i3 ∧ t.inited = true ∧ t.ie = true) := by
  cases exec_next h with
  | i3Ack hq | i3NoAck hq => exact .inr ⟨rfl, hq, rfl, rfl⟩
  | _ => exact .inl ⟨rfl, rfl⟩

theorem exec_slots (h : exec i s = .next t) :
    t.slots = s.slots ∨ (∃ d h p c, i = .register d h p c) ∨ (∃ h, i = .cancel h) ∨ ∃ j, i = .scan j := by
  cases exec_next h with
  | slotFilled => exact .inr (.inl ⟨_, _, _, _, rfl⟩)
  | cancelled => exact .inr (.inr (.inl ⟨_, rfl⟩))
  | slotFired => exact .inr (.inr (.inr ⟨_, rfl⟩))
  | _ => exact .inl rfl

/-- Settles O41. -/
theorem latchEnableAndTableWriters : Obligations.LatchEnableAndTableWriters := by
  intro i s t h
  refine ⟨exec_nextCmp h, exec_cntLatch h, ?_, exec_slots h⟩
  rcases exec_enables h with hsame | ⟨hi, -, hinited, hie⟩
  · exact .inl hsame
  · exact .inr ⟨hi, hinited, hie⟩

end Sys2Proof.Machine
end

section
/-!
PROOFS. What every step keeps: the bits only reset clears, and the count of the T6 steps (O47, O60).
-/

namespace Sys2Proof.Machine

open Sys2Proof

variable {s t : State}

/-! ## Sticky bits -/

theorem or_eq_self_of_eq_or {x y z : BitVec 6} (h : y = x ||| z) : x ||| y = y := by
  rw [h, ← BitVec.or_assoc, BitVec.or_self]

/-- An instruction clears no FAULT bit: it leaves FAULT, or adds the bit of the fault it raises (R30, R200). -/
theorem exec_fault_sticky {i : Instr} (h : exec i s = .next t) : s.fault ||| t.fault = t.fault := by
  cases exec_next h with
  | commandFault _ code => exact or_eq_self_of_eq_or (z := code.bit) rfl
  | initRefused => exact or_eq_self_of_eq_or (z := FaultCode.irqRegister.bit) rfl
  | t1Spurious => exact or_eq_self_of_eq_or (z := FaultCode.spuriousIrq.bit) rfl
  | _ => exact BitVec.or_self

/-- A step that is no reset leaves INITED, IE and FAULT as they are, or performs an instruction on them. -/
theorem step_enables_fault (hr : turnIsReset s.nextTurn = false) (h : step s = .next t) :
    ((t.inited = s.inited ∧ t.ie = s.ie) ∨ (s.seq = .i3 ∧ t.inited = true ∧ t.ie = true)) ∧
      s.fault ||| t.fault = t.fault := by
  have of_exec {i : Instr} (hx : exec i s.dropTurn = .next t) :
      ((t.inited = s.inited ∧ t.ie = s.ie) ∨ (s.seq = .i3 ∧ t.inited = true ∧ t.ie = true)) ∧
        s.fault ||| t.fault = t.fault :=
    ⟨(exec_enables hx).imp_right fun ⟨_, hset⟩ => hset, exec_fault_sticky (s := s.dropTurn) hx⟩
  cases step_stepNext h with
  | selected i _ _ _ hx => exact of_exec hx
  | performed tx _ _ _ hx => exact of_exec hx
  | wasReset d hu => simp [hu, turnIsReset] at hr
  | blockIdle => exact ⟨.inl ⟨rfl, rfl⟩, BitVec.or_self⟩

/-- Settles O47. -/
theorem stickyBitsStayUntilReset : Obligations.StickyBitsStayUntilReset := by
  intro s t hr h
  obtain ⟨⟨hinited, hie⟩ | ⟨hq, hinited, hie⟩, hfault⟩ := step_enables_fault hr h
  · exact ⟨fun h1 => hinited.trans h1, fun h1 => hie.trans h1, hfault, fun h0 h1 => by simp [hinited, h0] at h1⟩
  · exact ⟨fun _ => hinited, fun _ => hie, hfault, fun _ _ => ⟨hq, hie⟩⟩

/-! ## The count of T6 steps -/

theorem countT6_of_reset {d : ResetDraws} (h : s.nextTurn = .reset d) (n : Nat) : countT6 s n = 0 := by
  simp only [countT6, h]

theorem countT6_of_t6 (h : s.nextTurn = .block) (hq : s.seq = .t6) (n : Nat) : countT6 s n = n + 1 := by
  simp only [countT6, h, hq, if_true]

/-- A turn that neither resets nor performs T6 leaves the count (R22). -/
theorem countT6_of_other (hr : turnIsReset s.nextTurn = false) (hb : s.nextTurn = .block → s.seq ≠ .t6) (n : Nat) :
    countT6 s n = n := by
  cases hu : s.nextTurn with
  | reset d => simp [hu, turnIsReset] at hr
  | block => simp only [countT6, hu, if_neg (hb hu)]
  | _ => simp only [countT6, hu]

namespace State.CountsT6

variable {n : Nat}

theorem of_eq (hs : s.CountsT6 n) (hticks : t.ticks = s.ticks) (hsecs : t.secs = s.secs) (hcfg : t.cfg = s.cfg) :
    t.CountsT6 n where
  ticks_eq := hticks.trans hs.ticks_eq
  secs_eq hn := by rw [hsecs, hcfg, hs.secs_eq hn]

/-- After reset the counters stand for no T6 step, whatever else the state holds (R38). -/
theorem zero (hticks : s.ticks = 0) (hsecs : s.secs = 0) : s.CountsT6 0 where
  ticks_eq := hticks
  secs_eq _ := by simp [hsecs]

/-- T6 counts one more: floor((n + 1) / HZ) is one more than floor(n / HZ) exactly on a multiple of HZ, which the new tick
count shows as long as it has not wrapped (R22, R120). -/
theorem advanceClock (hs : s.CountsT6 n) : s.advanceClock.CountsT6 (n + 1) where
  ticks_eq := by
    rw [State.advanceClock_ticks, hs.ticks_eq, BitVec.ofNat_add]
    rfl
  secs_eq hn := by
    have hsecs := hs.secs_eq (by omega)
    have hticks : (s.ticks + 1).toNat = n + 1 := by
      rw [hs.ticks_eq]
      simp
      omega
    have hbound := Nat.div_le_self (n + 1) s.cfg.hz
    rw [State.advanceClock_secs, State.advanceClock_cfg, Nat.succ_div]
    rw [Nat.succ_div] at hbound
    by_cases hd : s.cfg.hz ∣ n + 1
    · have hon : onSecond s.cfg.hz (s.ticks + 1) = true := by
        rw [onSecond_iff, hticks]
        exact Nat.mod_eq_zero_of_dvd hd
      rw [if_pos hd] at hbound
      rw [if_pos hon, if_pos hd, BitVec.toNat_add, hsecs]
      exact Nat.mod_eq_of_lt (by simp; omega)
    · have hoff : ¬ onSecond s.cfg.hz (s.ticks + 1) = true := by
        rw [onSecond_iff, hticks]
        exact fun h => hd (Nat.dvd_of_mod_eq_zero h)
      rw [if_neg hoff, if_neg hd, hsecs, Nat.add_zero]

/-- An instruction other than T6 in its turn leaves the count. -/
theorem exec_other {i : Instr} (hs : s.CountsT6 n) (hi : i = .t6 → s.seq ≠ .t6) (h : exec i s = .next t) :
    t.CountsT6 n := by
  rcases exec_timeCounters h with ⟨ht6, hq, -⟩ | ⟨hticks, hsecs⟩
  · exact absurd hq (hi ht6)
  · exact hs.of_eq hticks hsecs (exec_cfg h)

/-- T6 where it is enabled counts one more. -/
theorem exec_t6 (hs : s.CountsT6 n) (hq : s.seq = .t6) (h : exec .t6 s = .next t) : t.CountsT6 (n + 1) := by
  rcases execT6_next h with ⟨-, rfl⟩ | ⟨hne, -⟩
  · exact hs.advanceClock.of_eq rfl rfl rfl
  · exact absurd hq hne

theorem dropTurn (hs : s.CountsT6 n) : s.dropTurn.CountsT6 n := hs.of_eq rfl rfl rfl

/-- Every step brings the count up to date (R22, R125). -/
theorem step (hs : s.CountsT6 n) (h : step s = .next t) : t.CountsT6 (countT6 s n) := by
  cases step_stepNext h with
  | selected i _ hu hi hx =>
    by_cases hq : s.seq = .t6
    · obtain rfl : i = .t6 := Option.some.inj (hi.symm.trans (internalStep_of_t6 hq))
      rw [countT6_of_t6 hu hq]
      exact hs.dropTurn.exec_t6 hq hx
    · rw [countT6_of_other (by rw [hu]; rfl) fun _ => hq]
      exact hs.dropTurn.exec_other (fun _ => hq) hx
  | performed tx _ hu _ hx =>
    have hi : decode tx ≠ .t6 := fun h6 => by simpa [h6, isCommand] using decode_isCommand tx
    rw [countT6_of_other (by rw [hu]; rfl) (by simp [hu])]
    exact hs.dropTurn.exec_other (fun h6 => absurd h6 hi) hx
  | wasReset d hu =>
    rw [countT6_of_reset hu]
    exact zero rfl rfl
  | blockIdle _ _ _ _ hr hb =>
    have hq : s.nextTurn = .block → s.seq ≠ .t6 := fun hu hq => nomatch (internalStep_of_t6 hq).symm.trans (hb hu)
    rw [countT6_of_other hr hq]
    exact hs.of_eq rfl rfl rfl

end State.CountsT6

/-- Settles O60: T6 in its turn is the only writer of the counters but reset, and adds what the count gains. -/
theorem everyStepKeepsTheTickCount : Obligations.EveryStepKeepsTheTickCount :=
  ⟨fun _ _ => .zero rfl rfl, fun _ _ _ hs h => hs.step h⟩

end Sys2Proof.Machine
end

section
/-!
PROOFS. The life of a slot: which step changes it, and how (O39).
-/

namespace Sys2Proof.Machine

open Sys2Proof

variable {s t : State}

theorem slotAt_of_slots_eq (h : t.slots = s.slots) (j : Nat) : t.slotAt j = s.slotAt j := by
  rw [State.slotAt, State.slotAt, h]

/-- A slot that another one's freeing leaves is not changed by it. -/
theorem eq_of_slotAt_freeSlot_ne {i j : Nat} (h : (s.freeSlot i).slotAt j ≠ s.slotAt j) : i = j := by
  by_contra hij
  exact h (by rw [slotAt_freeSlot, if_neg hij])

theorem slotAt_freeSlot_self (s : State) (j : Nat) : (s.freeSlot j).slotAt j = { s.slotAt j with handler := 0 } := by
  rw [slotAt_freeSlot, if_pos rfl]

/-- A handle in range is one more than the index it names (R25, R143). -/
theorem toNat_of_handleInRange {handle : U32} (h : s.handleInRange handle = true) :
    handle.toNat = slotOfHandle handle + 1 := by
  obtain ⟨h1, -⟩ := (handleInRange_iff s handle).mp h
  exact (Nat.sub_add_cancel h1).symm

/-- How an instruction changes slot j: REGISTER fills it, CANCEL or the scan frees it (R24). -/
theorem exec_slotAt_changed {i : Instr} {j : Nat} (h : exec i s = .next t) (hne : t.slotAt j ≠ s.slotAt j) :
    (∃ delayTicks handler param context, i = .register delayTicks handler param context ∧ (s.slotAt j).handler = 0 ∧
      handler ≠ 0 ∧
      t.slotAt j = { handler := handler, deadline := s.ticks + delayTicks, param := param, context := context } ∧
      t.rsp = .one (BitVec.ofNat 32 (j + 1))) ∨
    (∃ handle, i = .cancel handle ∧ handle.toNat = j + 1 ∧ t.slotAt j = { s.slotAt j with handler := 0 }) ∨
    (i = .scan j ∧ s.seq = .scan j ∧ t.seq = .cb j ∧ t.slotAt j = { s.slotAt j with handler := 0 }) := by
  cases exec_next h with
  | slotFilled d hd p c k _ hd0 hk =>
    obtain ⟨hlt, hfree, -⟩ := firstFree_some hk
    have hslot := slotAt_setSlot s k j { handler := hd, deadline := s.ticks + d, param := p, context := c }
    by_cases hkj : k = j
    · subst hkj
      rw [if_pos ⟨rfl, hlt⟩] at hslot
      exact .inl ⟨d, hd, p, c, rfl, hfree, hd0, hslot, rfl⟩
    · rw [if_neg fun hc => hkj hc.1] at hslot
      exact absurd hslot hne
  | cancelled handle _ hr =>
    obtain rfl := eq_of_slotAt_freeSlot_ne (s := s) hne
    exact .inr (.inl ⟨handle, rfl, toNat_of_handleInRange hr, slotAt_freeSlot_self s _⟩)
  | slotFired k hq =>
    obtain rfl := eq_of_slotAt_freeSlot_ne (s := s) hne
    exact .inr (.inr ⟨rfl, hq, rfl, slotAt_freeSlot_self s _⟩)
  | _ => exact absurd (slotAt_of_slots_eq rfl j) hne

/-- Settles O39: a command turn performs REGISTER or CANCEL and no scan step, the BLOCK's own turn the scan step alone. -/
theorem slotChangesOnlyByItsLifecycle : Obligations.SlotChangesOnlyByItsLifecycle := by
  intro s t j h hne
  cases step_stepNext h with
  | selected i _ hu hi hx =>
    have hnc := internalStep_not_isCommand hi
    rcases exec_slotAt_changed hx hne with ⟨_, _, _, _, rfl, -⟩ | ⟨_, rfl, -⟩ | ⟨-, hscan⟩
    · simp [isCommand] at hnc
    · simp [isCommand] at hnc
    · exact .inr (.inr (.inl ⟨hu, hscan⟩))
  | performed tx _ hu hp hx =>
    rcases exec_slotAt_changed hx hne with ⟨d, hd, p, c, hi, hfill⟩ | ⟨handle, hi, hfree⟩ | ⟨hi, -⟩
    · exact .inl ⟨tx, d, hd, p, c, hu, hp, hi, hfill⟩
    · exact .inr (.inl ⟨tx, handle, hu, hp, hi, hfree⟩)
    · simpa [hi, isCommand] using decode_isCommand tx
  | wasReset d hu => exact .inr (.inr (.inr ⟨d, hu, slotAt_applyReset_handler _ d j⟩))
  | blockIdle => exact absurd (slotAt_of_slots_eq rfl j) hne

end Sys2Proof.Machine
end

section
/-!
PROOFS. The CLOCK alone: the state after n turns of it, and the distance to the match (O57).
-/

namespace Sys2Proof.Machine

open Sys2Proof

/-- n turns of the CLOCK alone are n advances. -/
theorem runTurns_replicate_clock (n : Nat) (s : State) (ha : s.cfg.admitted = true) :
    runTurns (List.replicate n .clock) s = .next { State.clockAdvance^[n] s with sched := [] } := by
  induction n generalizing s with
  | zero => rfl
  | succ n ih =>
    have hrun := runTurns_cons (u := .clock) (ts := List.replicate n .clock) ha rfl
    exact hrun.trans (ih s.clockAdvance ha)

theorem clockAdvance_iterate_cnt (n : Nat) (s : State) :
    (State.clockAdvance^[n] s).cnt = s.cnt + BitVec.ofNat 32 n := by
  induction n with
  | zero => exact (BitVec.add_zero _).symm
  | succ n ih =>
    rw [Function.iterate_succ_apply', State.clockAdvance_cnt, ih, BitVec.ofNat_add, BitVec.add_assoc]
    rfl

theorem clockAdvance_iterate_cmp (n : Nat) (s : State) : (State.clockAdvance^[n] s).cmp = s.cmp := by
  induction n with
  | zero => rfl
  | succ n ih => rw [Function.iterate_succ_apply', State.clockAdvance_cmp, ih]

/-- M is set after n advances exactly if it was, or one of the counts on the way was CMP (R32). -/
theorem clockAdvance_iterate_m (n : Nat) (s : State) : (State.clockAdvance^[n] s).m = true ↔
    s.m = true ∨ ∃ k, 1 ≤ k ∧ k ≤ n ∧ s.cnt + BitVec.ofNat 32 k = s.cmp := by
  induction n with
  | zero => simp
  | succ n ih =>
    have hcnt := clockAdvance_iterate_cnt (n + 1) s
    rw [Function.iterate_succ_apply', State.clockAdvance_cnt] at hcnt
    rw [Function.iterate_succ_apply', State.clockAdvance_m, Bool.or_eq_true, ih, beq_iff_eq, hcnt,
      clockAdvance_iterate_cmp, or_assoc]
    refine or_congr_right ⟨?_, ?_⟩
    · rintro (⟨k, h1, hk, he⟩ | he)
      · exact ⟨k, h1, by omega, he⟩
      · exact ⟨n + 1, by omega, le_rfl, he⟩
    · rintro ⟨k, h1, hk, he⟩
      rcases Nat.lt_or_eq_of_le hk with hlt | rfl
      · exact .inl ⟨k, h1, by omega, he⟩
      · exact .inr he

/-- The number of counts from CNT up to CMP, a whole wrap where they are equal (R244). -/
def matchDistance (cnt cmp : U32) : Nat := if cmp = cnt then 2 ^ 32 else (cmp - cnt).toNat

theorem one_le_matchDistance (cnt cmp : U32) : 1 ≤ matchDistance cnt cmp := by
  unfold matchDistance
  split <;> bv_omega

theorem add_matchDistance (cnt cmp : U32) : cnt + BitVec.ofNat 32 (matchDistance cnt cmp) = cmp := by
  unfold matchDistance
  split <;> bv_omega

/-- The distance is the least number of counts, at least one, that reach CMP. -/
theorem matchDistance_le {cnt cmp : U32} {k : Nat} (h1 : 1 ≤ k) (h : cnt + BitVec.ofNat 32 k = cmp) :
    matchDistance cnt cmp ≤ k := by
  unfold matchDistance
  split <;> bv_omega

/-- Settles O57: the counts on the way include CMP exactly from its distance on. -/
theorem matchComesExactlyAtTheDistance : Obligations.MatchComesExactlyAtTheDistance := by
  intro s n ha hm _
  refine ⟨_, runTurns_replicate_clock n s ha, clockAdvance_iterate_cnt n s, clockAdvance_iterate_cmp n s, ?_⟩
  change (State.clockAdvance^[n] s).m = true ↔ matchDistance s.cnt s.cmp ≤ n
  rw [clockAdvance_iterate_m]
  constructor
  · rintro (h | ⟨k, h1, hk, he⟩)
    · simp [hm] at h
    · exact (matchDistance_le h1 he).trans hk
  · exact fun hn => .inr ⟨_, one_le_matchDistance _ _, hn, add_matchDistance _ _⟩

end Sys2Proof.Machine
end

section
/-!
PROOFS. Stale slot fields: two states that differ only there stay so under every operation, instruction and turn (O59).
-/

namespace Sys2Proof.Machine

open Sys2Proof

/-! ## The relation -/

/-- An operation that neither reads nor writes the table. -/
def SlotBlind (f : State → State) : Prop := ∀ s slots, f { s with slots := slots } = { f s with slots := slots }

theorem Slot.sameLive_refl (a : Slot) : a.sameLive a := ⟨rfl, fun _ => rfl⟩

/-- Two freed slots differ in stale fields only (R37). -/
theorem Slot.sameLive_of_free {a b : Slot} (ha : a.handler = 0) (hb : b.handler = 0) : a.sameLive b :=
  ⟨ha.trans hb.symm, fun h => absurd ha ((occupied_iff a).mp h)⟩

theorem Slot.sameLive.occupied_eq {a b : Slot} (h : a.sameLive b) : a.occupied = b.occupied := by
  rw [Slot.occupied, Slot.occupied, h.1]

/-- The comparator does not see the stale fields: a free slot is never due (R161). -/
theorem Slot.sameLive.due_eq {a b : Slot} (h : a.sameLive b) (tick : U32) : a.due tick = b.due tick := by
  cases ho : a.occupied with
  | true => rw [h.2 ho]
  | false => rw [not_due_of_free a tick ho, not_due_of_free b tick (h.occupied_eq ▸ ho)]

/-- The search for a free slot looks at the handlers only (R141). -/
theorem firstFreeFrom_congr {l l' : List Slot} (i : Nat) (h : l.map Slot.handler = l'.map Slot.handler) :
    firstFreeFrom i l = firstFreeFrom i l' := by
  induction l generalizing i l' with
  | nil =>
    obtain rfl : l' = [] := by simpa using h.symm
    rfl
  | cons a l ih =>
    cases l' with
    | nil => simp at h
    | cons b l' =>
      obtain ⟨hab, hl⟩ : a.handler = b.handler ∧ l.map Slot.handler = l'.map Slot.handler := by simpa using h
      rw [firstFreeFrom, firstFreeFrom, hab, ih (i + 1) hl]

namespace State.SameButStale

variable {s s' : State}

theorem refl (s : State) : s.SameButStale s := ⟨rfl, fun i => (s.slotAt i).sameLive_refl, rfl⟩

/-- The second state is the first with another table. -/
theorem eq_withSlots (h : s.SameButStale s') : s' = { s with slots := s'.slots } :=
  (congrArg (fun u : State => { u with slots := s'.slots }) h.rest_same).symm

/-- What is computed without the table is the same of both. -/
theorem read_eq (h : s.SameButStale s') {α : Type} (f : State → α)
    (hf : ∀ slots, f { s with slots := slots } = f s := by exact fun _ => rfl) : f s = f s' :=
  (hf s'.slots).symm.trans (congrArg f h.eq_withSlots.symm)

theorem cfg_eq (h : s.SameButStale s') : s.cfg = s'.cfg := h.read_eq State.cfg
theorem ticks_eq (h : s.SameButStale s') : s.ticks = s'.ticks := h.read_eq State.ticks
theorem seq_eq (h : s.SameButStale s') : s.seq = s'.seq := h.read_eq State.seq

/-- An operation that is blind to the table keeps the relation. -/
theorem map (h : s.SameButStale s') {f : State → State} (hf : SlotBlind f := by exact fun _ _ => rfl) :
    (f s).SameButStale (f s') := by
  have hslots (u : State) : (f u).slots = u.slots := by
    have hu := congrArg State.slots (hf u u.slots)
    exact hu
  refine ⟨?_, fun i => ?_, ?_⟩
  · rw [hslots, hslots, h.slots_length]
  · rw [slotAt_of_slots_eq (hslots s), slotAt_of_slots_eq (hslots s')]
    exact h.slots_same i
  · rw [← hf, ← hf, h.rest_same]

theorem firstFree_eq (h : s.SameButStale s') : s.firstFree = s'.firstFree := by
  refine firstFreeFrom_congr 0 (List.ext_getElem (by simpa using h.slots_length) fun i hi hi' => ?_)
  rw [List.length_map] at hi hi'
  rw [List.getElem_map, List.getElem_map, ← slotAt_eq_getElem s i hi, ← slotAt_eq_getElem s' i hi', (h.slots_same i).1]

theorem setSlot (h : s.SameButStale s') (i : Nat) {slot slot' : Slot} (hslot : slot.sameLive slot') :
    (s.setSlot i slot).SameButStale (s'.setSlot i slot') where
  slots_length := by simpa using h.slots_length
  slots_same j := by
    rw [slotAt_setSlot, slotAt_setSlot, h.slots_length]
    split
    · exact hslot
    · exact h.slots_same j
  rest_same := h.rest_same

theorem freeSlot (h : s.SameButStale s') (i : Nat) : (s.freeSlot i).SameButStale (s'.freeSlot i) :=
  h.setSlot i (Slot.sameLive_of_free rfl rfl)

theorem dueNow_eq (h : s.SameButStale s') (i : Nat) : s.dueNow i = s'.dueNow i := by
  rw [State.dueNow, State.dueNow, (h.slots_same i).due_eq, h.ticks_eq]

/-- A slot that fires is occupied, so the FIRE event is the same of both (R162). -/
theorem fire (h : s.SameButStale s') {i : Nat} (hdue : s.dueNow i = true) : (s.fire i).SameButStale (s'.fire i) := by
  have hslot : s.slotAt i = s'.slotAt i :=
    (h.slots_same i).2 ((occupied_iff _).mpr ((due_iff _ _).mp hdue).1)
  rw [State.fire, State.fire, hslot]
  exact (h.freeSlot i).map (f := fun u => (u.emit (.fire (handleOfSlot i) _ _ _)).goto (.cb i))

end State.SameButStale

/-! ## Outcomes -/

/-- Both outcomes are next states, alike but for stale fields. -/
def SameNext (o o' : Host.Outcome State Fault Refusal) : Prop :=
  ∃ t t', o = .next t ∧ o' = .next t' ∧ t.SameButStale t'

variable {s s' : State}

theorem State.SameButStale.sameNext {t t' : State} (h : t.SameButStale t') : SameNext (.next t) (.next t') :=
  ⟨t, t', rfl, rfl, h⟩

theorem takeCommand_sameNext (h : s.SameButStale s') {f : State → State}
    (hf : ∀ {u u' : State}, u.SameButStale u' → (f u).SameButStale (f u')) :
    SameNext (takeCommand s f) (takeCommand s' f) := by
  rw [takeCommand, takeCommand, ← h.seq_eq]
  split
  · exact (hf (h.map (f := State.beginCommand))).sameNext
  · exact h.sameNext

theorem takeInternal_sameNext (h : s.SameButStale s') {enabled enabled' : Bool}
    {f : State → State} (he : enabled = enabled') (hf : (f s).SameButStale (f s')) :
    SameNext (takeInternal enabled s f) (takeInternal enabled' s' f) := by
  rw [takeInternal, takeInternal, ← he]
  split
  · exact hf.sameNext
  · exact h.sameNext

/-! ## Instructions -/

theorem execRegister_sameNext (h : s.SameButStale s') (delayTicks : U32) (handler param context : Ref) :
    SameNext (execRegister delayTicks handler param context s) (execRegister delayTicks handler param context s') := by
  refine takeCommand_sameNext h fun {u u'} hu => ?_
  split
  · exact hu.map (f := (·.raiseFault .nullHandler))
  · rw [State.registerTimer, State.registerTimer, ← hu.firstFree_eq, ← hu.ticks_eq]
    split
    · exact hu.map (f := fun u => (u.emit _).respond _)
    · exact (hu.setSlot _ (Slot.sameLive_refl _)).map (f := (·.respond _))

theorem execCancel_sameNext (h : s.SameButStale s') (handle : U32) :
    SameNext (execCancel handle s) (execCancel handle s') := by
  refine takeCommand_sameNext h fun {u u'} hu => ?_
  rw [← hu.read_eq (·.handleInRange handle)]
  split
  · exact hu.freeSlot _
  · exact hu.map (f := (·.raiseFault .badHandle))

theorem execScan_sameNext (h : s.SameButStale s') (i : Nat) : SameNext (execScan i s) (execScan i s') := by
  refine takeInternal_sameNext h (by rw [h.seq_eq, h.cfg_eq]) ?_
  rw [← h.dueNow_eq]
  split
  · next hdue => exact h.fire hdue
  · exact h.map (f := (·.goto (.scan (i + 1))))

theorem initI1_sameButStale (h : s.SameButStale s') : s.initI1.SameButStale s'.initI1 := by
  rw [State.initI1, State.initI1, ← h.read_eq State.icAccept]
  split
  · exact h.map (f := fun u => (u.dropIcAnswer.latchCnt (u.memRead .clkCnt)).goto .i2)
  · exact h.map (f := fun u => u.dropIcAnswer.raiseFault .irqRegister)

theorem execInit_sameNext (h : s.SameButStale s') : SameNext (execInit s) (execInit s') := by
  refine takeCommand_sameNext h fun {u u'} hu => ?_
  rw [← hu.seq_eq, ← hu.read_eq State.inited]
  split
  · exact initI1_sameButStale hu
  · exact hu.map (f := (·.raiseFault .badContext))

theorem execCallbackDone_sameNext (h : s.SameButStale s') : SameNext (execCallbackDone s) (execCallbackDone s') := by
  refine takeCommand_sameNext h fun {u u'} hu => ?_
  rw [← hu.seq_eq]
  split
  · exact hu.map (f := (·.leaveCallback _))
  · exact hu.map (f := (·.raiseFault .badContext))

theorem execT1_sameNext (h : s.SameButStale s') : SameNext (execT1 s) (execT1 s') := by
  refine takeInternal_sameNext h (h.read_eq State.t1Enabled) ?_
  rw [← h.read_eq State.readStatus]
  split
  · exact h.map (f := State.enterTick)
  · exact h.map (f := (·.raiseFault .spuriousIrq))

theorem execI3_sameNext (h : s.SameButStale s') : SameNext (execI3 s) (execI3 s') := by
  refine takeInternal_sameNext h (by rw [h.seq_eq]) ?_
  rw [← h.cfg_eq]
  split
  · exact h.map (f := fun u => u.ackStatus.enable.goto .idle)
  · exact h.map (f := fun u => u.enable.goto .idle)

/-- A command that neither reads nor writes the table keeps the relation. -/
theorem takeCommand_sameNext_of_slotBlind (h : s.SameButStale s') {f : State → State}
    (hf : SlotBlind f := by exact fun _ _ => rfl) : SameNext (takeCommand s f) (takeCommand s' f) :=
  takeCommand_sameNext h fun hu => hu.map hf

/-- So does a sequencer step that neither reads nor writes the table. -/
theorem takeInternal_sameNext_of_slotBlind (h : s.SameButStale s') (q : Config → Seq) {f : State → State}
    (hf : SlotBlind f := by exact fun _ _ => rfl) :
    SameNext (takeInternal (s.seq == q s.cfg) s f) (takeInternal (s'.seq == q s'.cfg) s' f) :=
  takeInternal_sameNext h (by rw [h.seq_eq, h.cfg_eq]) (h.map hf)

/-- Every instruction keeps the relation: those that read or write the table look at handlers and at occupied slots only. -/
theorem exec_sameNext (h : s.SameButStale s') (i : Instr) : SameNext (exec i s) (exec i s') := by
  cases i <;> rw [exec, exec]
  case register d hd p c => exact execRegister_sameNext h d hd p c
  case cancel handle => exact execCancel_sameNext h handle
  case scan j => exact execScan_sameNext h j
  case init => exact execInit_sameNext h
  case callbackDone => exact execCallbackDone_sameNext h
  case t1 => exact execT1_sameNext h
  case i3 => exact execI3_sameNext h
  case readTicks | readSeconds | readSnapshot | readRaw | reserved => exact takeCommand_sameNext_of_slotBlind h
  case t2 => exact takeInternal_sameNext_of_slotBlind h fun _ => .t2
  case t3 => exact takeInternal_sameNext_of_slotBlind h fun _ => .t3
  case t4 => exact takeInternal_sameNext_of_slotBlind h fun _ => .t4
  case t4b => exact takeInternal_sameNext_of_slotBlind h fun _ => .t4b
  case t5 => exact takeInternal_sameNext_of_slotBlind h fun _ => .t5
  case t6 => exact takeInternal_sameNext_of_slotBlind h fun _ => .t6
  case i2 => exact takeInternal_sameNext_of_slotBlind h fun _ => .i2
  case scanK => exact takeInternal_sameNext_of_slotBlind h fun c => .scan c.k

/-! ## Turns and steps -/

theorem takeTurn_sameNext (h : s.SameButStale s') (u : Turn) : SameNext (takeTurn u s) (takeTurn u s') := by
  cases u with
  | clock => exact (h.map (f := State.clockAdvance)).sameNext
  | present tx => exact (h.map (f := (·.hostPresents tx))).sameNext
  | icAnswer a => exact (h.map (f := (·.icSettles a))).sameNext
  | block =>
    rw [takeTurn, takeTurn, ← h.read_eq State.internalStep]
    split
    · exact exec_sameNext h _
    · exact h.sameNext
  | command =>
    rw [takeTurn, takeTurn, ← h.read_eq State.port]
    split
    · exact exec_sameNext h _
    · exact h.sameNext
  | reset d =>
    rw [takeTurn, takeTurn, ← h.read_eq (·.applyReset d)]
    exact (State.SameButStale.refl _).sameNext

/-- Settles O59: both states take the same turn, and every turn keeps the relation. -/
theorem staleSlotFieldsAreUnobservable : Obligations.StaleSlotFieldsAreUnobservable := by
  intro s s' t h hstep
  obtain ⟨hadm, hturn⟩ := step_next hstep
  have hcfg := h.cfg_eq
  have hnext := h.read_eq State.nextTurn
  obtain ⟨t₁, t', ht₁, ht', hsame⟩ := takeTurn_sameNext (h.map (f := State.dropTurn)) s.nextTurn
  obtain rfl := Host.Outcome.next.inj (hturn.symm.trans ht₁)
  refine ⟨t', ?_, hsame⟩
  rw [step_of_admitted (hcfg ▸ hadm), ← hnext]
  exact ht'

end Sys2Proof.Machine
end

section
/-!
PROOFS. Encoding: the words that decode gives a command and the operands each takes (O2, O3, O4), the sequencer's own steps
(O5), and the way from an instruction to its transaction's number and back (O1).
-/

namespace Sys2Proof

open Machine

variable {c : Config} {tx : Transaction}

/-! ## Command words -/

/-- R83's eight legal words, written out. -/
theorem legalWord_iff (cw : U32) : legalWord cw = true ↔
    cw = 1#32 ∨ cw = 2#32 ∨ cw = 3#32 ∨ cw = 4#32 ∨ cw = 5#32 ∨ cw = 6#32 ∨ cw = 7#32 ∨ cw = 8#32 := by
  simp only [legalWord, Bool.and_eq_true, decide_eq_true_eq]
  bv_omega

theorem legalWord_eq_false_iff (cw : U32) : legalWord cw = false ↔ cw.toNat = 0 ∨ 9 ≤ cw.toNat := by
  rw [← Bool.not_eq_true, legalWord, Bool.and_eq_true, decide_eq_true_eq, decide_eq_true_eq]
  omega

/-- Every word but the eight is reserved, whatever the operands (R84, R85). -/
theorem decode_of_illegal (h : legalWord tx.cw = false) : decode tx = .reserved tx.cw := by
  rw [decode, wordIsLegal_iff_legalWord, h, if_neg Bool.false_ne_true]

/-- REGISTER takes all four operands (R82). -/
theorem decode_register (h : tx.cw = 2#32) : decode tx = .register tx.a tx.b tx.c tx.d := by
  rw [decode, h]; rfl

/-- CANCEL takes operand A alone (R82). -/
theorem decode_cancel (h : tx.cw = 3#32) : decode tx = .cancel tx.a := by
  rw [decode, h]; rfl

/-- Settles O4: each number is closed, so the decoder computes at it. -/
theorem writtenOutWordsDecode : Obligations.WrittenOutWordsDecode :=
  ⟨rfl, rfl, rfl, rfl, rfl, rfl⟩

/-- Settles O2: a legal word is a literal, at which `decode` computes; the two ranges of the rest are the illegal words. -/
theorem everyWordIsLegalOrReserved : Obligations.EveryWordIsLegalOrReserved := by
  intro tx
  refine ⟨fun h => ?_, decode_register, decode_cancel, fun h => ?_, fun h => ?_, fun h => ?_, fun h => ?_, fun h => ?_,
    fun h => decode_of_illegal ((legalWord_eq_false_iff _).mpr h)⟩
  all_goals rw [decode, h]; rfl

/-- Settles O3: an illegal word is kept and its operands are dropped; of the legal words only 2 and 3 look at an operand. -/
theorem ignoredOperandsHaveNoEffect : Obligations.IgnoredOperandsHaveNoEffect := by
  intro tx tx' hcw
  refine ⟨decode_register, decode_cancel, fun h2 h3 => ?_⟩
  cases hl : legalWord tx.cw with
  | false => rw [decode_of_illegal hl, decode_of_illegal (hcw ▸ hl), hcw]
  | true =>
    rcases (legalWord_iff _).mp hl with h | h | h | h | h | h | h | h
    case inr.inl => exact absurd h h2
    case inr.inr.inl => exact absurd h h3
    all_goals rw [decode, decode, ← hcw, h]; rfl

/-! ## Encoding -/

/-- The commands are exactly the instructions with an encoding (R83, R89). -/
theorem encode_isSome (i : Instr) : (encode i).isSome = isCommand i := by
  cases i <;> rfl

/-- Settles O5: a decoded transaction is a command, and only commands have an encoding. -/
theorem internalStepsHaveNoEncoding : Obligations.InternalStepsHaveNoEncoding := by
  intro i hi
  have hnone : (encode i).isSome = false := (encode_isSome i).trans hi
  refine ⟨by simpa using hnone, fun tx h => ?_⟩
  simpa [h, hi] using decode_isCommand tx

/-- What an instruction assembles to decodes to it (R83, R84, R87). -/
theorem decode_encode {i : Instr} (hi : i.wf c = true) (h : encode i = some tx) : decode tx = i := by
  cases i with
  | register => cases h; exact decode_register rfl
  | cancel => cases h; exact decode_cancel rfl
  | reserved cw => cases h; exact decode_of_illegal (Bool.not_eq_true' _ ▸ hi)
  | _ => cases h <;> rfl

/-- What a well-formed instruction assembles to fits the port: the cases of the family EncodingFitsPort. -/
theorem encode_wf {i : Instr} (hi : i.wf c = true) (h : encode i = some tx) : tx.wf c = true := by
  cases i with
  | register => exact Laws.EncodingFitsPort.register _ _ _ _ c tx hi h
  | cancel => exact Laws.EncodingFitsPort.cancel _ c tx hi h
  | _ => cases h <;> exact Laws.bareCommand_wf c _

/-! ## A transaction as one number -/

theorem Transaction.wf_iff (c : Config) (tx : Transaction) : tx.wf c = true ↔
    tx.b < 2 ^ c.refW ∧ tx.c < 2 ^ c.refW ∧ tx.d < 2 ^ c.refW := by
  simp only [Transaction.wf, Config.fitsRef, Bool.and_eq_true, decide_eq_true_eq, and_assoc]

/-! A number `x + 2 ^ m * y` with `x` in its low `m` bits: how wide it is, and both parts read back. -/

theorem add_two_pow_mul_lt {x y m n : Nat} (hx : x < 2 ^ m) (hy : y < 2 ^ n) : x + 2 ^ m * y < 2 ^ (m + n) :=
  calc x + 2 ^ m * y < 2 ^ m * (y + 1) := by rw [Nat.mul_succ]; omega
    _ ≤ 2 ^ m * 2 ^ n := Nat.mul_le_mul_left _ hy
    _ = 2 ^ (m + n) := (Nat.pow_add ..).symm

theorem add_two_pow_mul_div {x m : Nat} (hx : x < 2 ^ m) (y : Nat) : (x + 2 ^ m * y) / 2 ^ m = y := by
  rw [Nat.add_mul_div_left _ _ (Nat.two_pow_pos m), Nat.div_eq_of_lt hx, Nat.zero_add]

theorem add_two_pow_mul_mod {x m : Nat} (hx : x < 2 ^ m) (y : Nat) : (x + 2 ^ m * y) % 2 ^ m = x := by
  rw [Nat.add_mul_mod_self_left, Nat.mod_eq_of_lt hx]

/-- A transaction that fits the port fits the number of bits of one (R80). -/
theorem toBits_lt (h : tx.wf c = true) : tx.toBits c.refW < 2 ^ transactionBits c.refW := by
  obtain ⟨hb, hc, hd⟩ := (Transaction.wf_iff c tx).mp h
  have hbits : transactionBits c.refW = 32 + (32 + (c.refW + (c.refW + c.refW))) := by
    rw [transactionBits]; omega
  rw [hbits]
  exact add_two_pow_mul_lt tx.cw.isLt (add_two_pow_mul_lt tx.a.isLt
    (add_two_pow_mul_lt hb (add_two_pow_mul_lt hc hd)))

theorem toBits_div_two_pow_32 (refW : Nat) (tx : Transaction) :
    tx.toBits refW / 2 ^ 32 = tx.a.toNat + 2 ^ 32 * (tx.b + 2 ^ refW * (tx.c + 2 ^ refW * tx.d)) :=
  add_two_pow_mul_div tx.cw.isLt _

theorem toBits_div_two_pow_64 (refW : Nat) (tx : Transaction) :
    tx.toBits refW / 2 ^ 64 = tx.b + 2 ^ refW * (tx.c + 2 ^ refW * tx.d) := by
  rw [show 2 ^ 64 = 2 ^ 32 * 2 ^ 32 from rfl, ← Nat.div_div_eq_div_mul, toBits_div_two_pow_32,
    add_two_pow_mul_div tx.a.isLt]

/-- The layout loses nothing of a transaction that fits the port (log 13). -/
theorem ofBits_toBits (h : tx.wf c = true) : Transaction.ofBits c.refW (tx.toBits c.refW) = tx := by
  obtain ⟨hb, hc, hd⟩ := (Transaction.wf_iff c tx).mp h
  have cw_eq : BitVec.ofNat 32 (tx.toBits c.refW) = tx.cw :=
    BitVec.eq_of_toNat_eq (add_two_pow_mul_mod tx.cw.isLt _)
  have a_eq : BitVec.ofNat 32 (tx.toBits c.refW / 2 ^ 32) = tx.a := by
    rw [toBits_div_two_pow_32]
    exact BitVec.eq_of_toNat_eq (add_two_pow_mul_mod tx.a.isLt _)
  have b_eq : tx.toBits c.refW / 2 ^ 64 % 2 ^ c.refW = tx.b := by
    rw [toBits_div_two_pow_64, add_two_pow_mul_mod hb]
  have c_eq : tx.toBits c.refW / 2 ^ (64 + c.refW) % 2 ^ c.refW = tx.c := by
    rw [Nat.pow_add, ← Nat.div_div_eq_div_mul, toBits_div_two_pow_64, add_two_pow_mul_div hb, add_two_pow_mul_mod hc]
  have d_eq : tx.toBits c.refW / 2 ^ (64 + 2 * c.refW) % 2 ^ c.refW = tx.d := by
    rw [Nat.two_mul, Nat.pow_add, Nat.pow_add, ← Nat.div_div_eq_div_mul, ← Nat.div_div_eq_div_mul,
      toBits_div_two_pow_64, add_two_pow_mul_div hb, add_two_pow_mul_div hc, Nat.mod_eq_of_lt hd]
  rw [Transaction.ofBits, cw_eq, a_eq, b_eq, c_eq, d_eq]

/-- A transaction of full length is neither too short nor too long (R64, R80). -/
theorem decodeBits_transactionBits (refW w : Nat) : decodeBits refW (transactionBits refW) w =
    .ok (decode (Transaction.ofBits refW (w % 2 ^ transactionBits refW))) := by
  rw [decodeBits, if_neg (by rw [transactionBits]; omega), if_neg (Nat.lt_irrefl _)]

/-- Settles O1: the number of bits cuts nothing off, the layout gives the transaction back, and decode inverts encode. -/
theorem decodeOfEncodedBitsIsInstruction : Obligations.DecodeOfEncodedBitsIsInstruction := by
  intro c i tx hi h
  have htx := encode_wf hi h
  rw [decodeBits_transactionBits, Nat.mod_eq_of_lt (toBits_lt htx), ofBits_toBits htx, decode_encode hi h]

end Sys2Proof
end

section
/-!
PROOFS. The steps T1 to T5 of the tick sequence where the sequencer selects them (O28 to O33).
-/

namespace Sys2Proof.Machine

open Sys2Proof

variable {s : State}

/-! ## T1 -/

theorem exec_t1_of_match (he : s.t1Enabled = true) (hm : s.m = true) : exec .t1 s = .next s.enterTick := by
  simp [exec, execT1, takeInternal_enabled, he, hm]

theorem exec_t1_of_no_match (he : s.t1Enabled = true) (hm : s.m = false) :
    exec .t1 s = .next (s.raiseFault .spuriousIrq) := by
  simp [exec, execT1, takeInternal_enabled, he, hm]

/-- T1 is the step of no sequencer state but IDLE, and there only where its guard holds (R28, R100). -/
theorem internalStep_eq_t1_iff : s.internalStep = some .t1 ↔ s.t1Enabled = true := by
  constructor
  · intro h
    unfold State.internalStep at h
    split at h
    case h_1 =>
      split at h
      · assumption
      · cases h
    case h_10 =>
      split at h
      · cases h
      · split at h <;> cases h
    all_goals cases h
  · intro he
    obtain ⟨hq, hguard⟩ := (t1Enabled_iff s).mp he
    rw [internalStep_of_idle hq, if_pos hguard]

/-- Settles O28: where T1's guard holds, M alone decides between entry and fault. -/
theorem tickStepT1 : Obligations.TickStepT1 := by
  intro s
  refine ⟨fun hq hie hm => ?_, fun hq hie hm hsp => ?_, internalStep_eq_t1_iff.trans (t1Enabled_iff s)⟩
  · exact exec_t1_of_match ((t1Enabled_iff s).mpr ⟨hq, hie, .inl hm⟩) hm
  · exact exec_t1_of_no_match ((t1Enabled_iff s).mpr ⟨hq, hie, .inr hsp⟩) hm

/-! ## T2 to T5: the named updates each is made of -/

theorem exec_t2_of_seq (h : s.seq = .t2) : exec .t2 s = .next ((s.latchNextCmp (s.cmp + s.tpi)).goto .t3) := by
  simp [exec, execT2, takeInternal_enabled, h]

theorem exec_t3_of_seq (h : s.seq = .t3) : exec .t3 s = .next ((s.memWriteCmp s.nextCmp).goto .t4) := by
  simp [exec, execT3, takeInternal_enabled, h]

/-- T4's two ways, for any reading `p` of the late test (R103). -/
theorem exec_t4_of_late_iff {p : Prop} [Decidable p] (h : s.seq = .t4)
    (hlate : late s.cfg.drift s.nextCmp s.cnt = true ↔ p) :
    exec .t4 s = .next ((s.latchCnt s.cnt).goto (if p then .t4b else .t5)) := by
  by_cases hp : p
  · simp [exec, execT4, takeInternal_enabled, h, hlate.mpr hp, hp]
  · simp [exec, execT4, takeInternal_enabled, h, mt hlate.mp hp, hp]

theorem exec_t4b_of_seq (h : s.seq = .t4b) : exec .t4b s = .next ((s.memWriteCmp (s.cntLatch + s.tpi)).goto .t5) := by
  simp [exec, execT4b, takeInternal_enabled, h]

theorem exec_t5_of_seq (h : s.seq = .t5) : exec .t5 s = .next (s.ackStatus.goto .t6) := by
  simp [exec, execT5, takeInternal_enabled, h]

/-- Settles O29: the latch nextCmp and the sequencer are the only fields the two updates write. -/
theorem tickStepT2 : Obligations.TickStepT2 := fun _ => exec_t2_of_seq

/-- Settles O30: MemWrite is what touches M, and only under MATCH_ON_WRITE. -/
theorem tickStepT3 : Obligations.TickStepT3 := fun _ => exec_t3_of_seq

/-- Settles O31: the late test, read in each of the two modes of R104. -/
theorem tickStepT4 : Obligations.TickStepT4 := by
  intro s hq
  refine ⟨fun hd => exec_t4_of_late_iff hq ?_, fun hd => exec_t4_of_late_iff hq ?_⟩
  · rw [hd, late_signedLE]
  · rw [hd, late_unsignedLT]

/-- Settles O32: nextCmp is in neither update. -/
theorem tickStepT4B : Obligations.TickStepT4B := fun _ => exec_t4b_of_seq

/-- Settles O33: AckStatus does not ask what set M. -/
theorem tickStepT5 : Obligations.TickStepT5 := fun _ => exec_t5_of_seq

end Sys2Proof.Machine
end

section
/-!
PROOFS. The compare stays ahead of the counter value that T4 read, and the fault SPURIOUS_IRQ needs its parameter
(O45, O48).
-/

namespace Sys2Proof.Machine

open Sys2Proof

variable {s t : State} {i : Instr}

/-! ## The drift correction -/

theorem sdiff32_add_left (c d : U32) : sdiff32 (c + d) c = d.toInt := by
  rw [sdiff32, add_sub_cancel_left]

/-- R6 keeps TPI below 2^31, so its 32-bit word is TPI as a signed number too. -/
theorem tpi_toInt (hc : s.cfg.admitted = true) : s.tpi.toInt = s.cfg.tpi := by
  obtain ⟨-, -, -, htpi, -⟩ := (admitted_iff s.cfg).mp hc
  have hlt : s.cfg.tpi < 2 ^ 31 := Nat.lt_of_le_of_lt htpi (by decide)
  have htoNat : s.tpi.toNat = s.cfg.tpi := by
    rw [State.tpi, BitVec.toNat_ofNat, Nat.mod_eq_of_lt (by omega)]
  rw [BitVec.toInt_eq_toNat_of_lt (by omega), htoNat]

/-- T4B's compare is ahead of the latched counter by TPI, which R6 keeps in 1 to 2^31 - 1 (R105, R108). -/
theorem one_le_sdiff32_add_tpi (hc : s.cfg.admitted = true) (c : U32) : 1 ≤ sdiff32 (c + s.tpi) c := by
  rw [sdiff32_add_left, tpi_toInt hc]
  exact_mod_cast one_le_tpi hc

/-- A compare that is not late in the signed reading, where equality is late, is at least 1 ahead (R104). -/
theorem one_le_sdiff32_of_not_late {n c : U32} (h : late .signedLE n c = false) : 1 ≤ sdiff32 n c := by
  have hpos : ¬ sdiff32 n c ≤ 0 := of_decide_eq_false h
  omega

namespace State.DriftInv

/-- A state with the same sequencer value and the same three compare registers has the invariant too. -/
theorem of_eq (hs : s.DriftInv) (hseq : t.seq = s.seq) (hcmp : t.cmp = s.cmp) (hnext : t.nextCmp = s.nextCmp)
    (hlatch : t.cntLatch = s.cntLatch) : t.DriftInv where
  written hq := by rw [hcmp, hnext, hs.written (hseq ▸ hq)]
  ahead hq := by
    rw [hcmp, hlatch]
    exact hs.ahead (hseq ▸ hq)

/-- Outside T4 and T5 the invariant says nothing. -/
theorem of_seq_ne (h4 : t.seq ≠ .t4) (h5 : t.seq ≠ .t5) : t.DriftInv :=
  ⟨fun h => absurd h h4, fun h => absurd h h5⟩

end State.DriftInv

/-- T3 writes what T4 tests; T5 is reached from T4 with a compare that is not late, or from T4B with one TPI ahead; every
other instruction leaves the compare registers or ends outside T4 and T5 (R102 to R105). -/
theorem ExecNext.driftInv (h : ExecNext s i t) (hc : s.cfg.admitted = true) (hd : s.cfg.drift = .signedLE)
    (hs : s.DriftInv) : t.DriftInv := by
  cases h with
  | same => exact hs
  | tableFull | slotFilled | cancelled | readDone => exact hs.of_eq rfl rfl rfl rfl
  | t3 => exact ⟨fun _ => rfl, nofun⟩
  | t4NotLate hq hl =>
    refine ⟨nofun, fun _ => ?_⟩
    have hahead : 1 ≤ sdiff32 s.nextCmp s.cnt := one_le_sdiff32_of_not_late (hd ▸ hl)
    rwa [← hs.written hq] at hahead
  | t4b => exact ⟨nofun, fun _ => one_le_sdiff32_add_tpi hc s.cntLatch⟩
  | _ => exact .of_seq_ne nofun nofun

/-- Settles O45: an instruction keeps the invariant, reset leaves IDLE, and no other turn writes what it reads. -/
theorem compareAheadOfTheCheckedCounter : Obligations.CompareAheadOfTheCheckedCounter := by
  intro s t hd hs h
  obtain ⟨hc, -⟩ := step_next h
  have hdrop : s.dropTurn.DriftInv := hs.of_eq rfl rfl rfl rfl
  cases step_stepNext h with
  | selected i _ _ _ hx => exact (exec_next hx).driftInv hc hd hdrop
  | performed tx _ _ _ hx => exact (exec_next hx).driftInv hc hd hdrop
  | wasReset d _ => exact .of_seq_ne nofun nofun
  | blockIdle => exact hs.of_eq rfl rfl rfl rfl

/-! ## The fault SPURIOUS_IRQ -/

theorem FaultCode.bit_getLsbD_one (code : FaultCode) : code.bit.getLsbD 1 = true ↔ code = .spuriousIrq := by
  cases code <;> decide

/-- An instruction raises no fault, or exactly one; SPURIOUS_IRQ only where T1 is enabled with no match pending (R100,
R200). -/
theorem exec_faults (h : exec i s = .next t) :
    (t.fault = s.fault ∧ ∀ code, t.events ≠ s.events ++ [.fault code]) ∨
    ∃ code, t.fault = s.fault ||| code.bit ∧ t.events = s.events ++ [.fault code] ∧
      (code = .spuriousIrq → s.t1Enabled = true ∧ s.m = false) := by
  cases exec_next h with
  | commandFault _ code _ hne => exact .inr ⟨code, rfl, rfl, fun hcode => absurd hcode hne⟩
  | initRefused => exact .inr ⟨.irqRegister, rfl, rfl, nofun⟩
  | t1Spurious he hm => exact .inr ⟨.spuriousIrq, rfl, rfl, fun _ => ⟨he, hm⟩⟩
  | _ => exact .inl ⟨rfl, by simp⟩

/-- An instruction under SPURIOUS_IRQ false: T1 is then enabled only with a match pending, so it does not fault. -/
theorem exec_no_spurious_fault (hsp : s.cfg.spuriousIrq = false) (h : exec i s = .next t) :
    (t.fault.getLsbD 1 = true → s.fault.getLsbD 1 = true) ∧ t.events ≠ s.events ++ [.fault .spuriousIrq] := by
  rcases exec_faults h with ⟨hfault, hevents⟩ | ⟨code, hfault, hevents, hguard⟩
  · exact ⟨fun h1 => hfault ▸ h1, hevents _⟩
  · have hcode : code ≠ .spuriousIrq := by
      intro hcode
      obtain ⟨he, hm⟩ := hguard hcode
      simpa [hm, hsp] using (t1Enabled_iff s).mp he
    constructor
    · rw [hfault, BitVec.getLsbD_or, Bool.or_eq_true, FaultCode.bit_getLsbD_one]
      exact fun h1 => h1.resolve_right hcode
    · simp [hevents, hcode]

/-- Settles O48: only an instruction can raise the fault; reset clears FAULT, and no other turn writes it or emits. -/
theorem spuriousFaultNeedsItsParameter : Obligations.SpuriousFaultNeedsItsParameter := by
  intro s t hsp h
  cases step_stepNext h with
  | selected i _ _ _ hx => exact exec_no_spurious_fault (s := s.dropTurn) hsp hx
  | performed tx _ _ _ hx => exact exec_no_spurious_fault (s := s.dropTurn) hsp hx
  | wasReset d _ => simp
  | blockIdle => exact ⟨id, by simp⟩

end Sys2Proof.Machine
end

section
/-!
PROOFS. The tick and second accumulator: the read commands in an accepting state (O22 to O25), and T6 where the sequencer
selects it (O34).
-/

namespace Sys2Proof.Machine

open Sys2Proof

variable {s : State}

/-! ## The read commands -/

/-- Word 4 is READ_TICKS, whatever the operands (R82, R83). -/
theorem decode_readTicks {tx : Transaction} (h : tx.cw = 4#32) : decode tx = .readTicks := by
  obtain ⟨-, -, -, h4, -⟩ := everyWordIsLegalOrReserved tx
  exact h4 h

/-- Word 5 is READ_SECONDS, whatever the operands (R82, R83). -/
theorem decode_readSeconds {tx : Transaction} (h : tx.cw = 5#32) : decode tx = .readSeconds := by
  obtain ⟨-, -, -, -, h5, -⟩ := everyWordIsLegalOrReserved tx
  exact h5 h

/-- Word 6 is READ_SNAPSHOT, whatever the operands (R82, R83). -/
theorem decode_readSnapshot {tx : Transaction} (h : tx.cw = 6#32) : decode tx = .readSnapshot := by
  obtain ⟨-, -, -, -, -, h6, -⟩ := everyWordIsLegalOrReserved tx
  exact h6 h

/-- Word 7 is READ_RAW, whatever the operands (R82, R83). -/
theorem decode_readRaw {tx : Transaction} (h : tx.cw = 7#32) : decode tx = .readRaw := by
  obtain ⟨-, -, -, -, -, -, h7, -⟩ := everyWordIsLegalOrReserved tx
  exact h7 h

/-- A command that only responds, taken in IDLE or CB(i): the transaction leaves the port, the response is driven, and every
other field stays (R35, R180). -/
theorem takeCommand_respond (hq : s.seq = .idle ∨ ∃ i, s.seq = .cb i) (f : State → Response) :
    takeCommand s (fun u => u.respond (f u)) = .next { s with port := none, rsp := f s.beginCommand } :=
  takeCommand_accepted ((accepts_iff s.seq).mpr hq)

/-- Settles O22: taking the command does not write ticks, so the response is its value in the state before. -/
theorem readTicksAnswersTicks : Obligations.ReadTicksAnswersTicks :=
  ⟨fun _ => decode_readTicks, fun _ hq => takeCommand_respond hq fun u => .one u.ticks⟩

/-- Settles O23. -/
theorem readSecondsAnswersSecs : Obligations.ReadSecondsAnswersSecs :=
  ⟨fun _ => decode_readSeconds, fun _ hq => takeCommand_respond hq fun u => .one u.secs⟩

/-- Settles O24: one command step reads both counters, so no T6 can fall between the two words. -/
theorem readSnapshotAnswersBoth : Obligations.ReadSnapshotAnswersBoth :=
  ⟨fun _ => decode_readSnapshot, fun _ hq => takeCommand_respond hq fun u => .two u.ticks u.secs⟩

/-- Settles O25: the read of the counter is MemRead of CLK_CNT, which asks nothing of INITED (R61). -/
theorem readRawAnswersTheCounter : Obligations.ReadRawAnswersTheCounter :=
  ⟨fun _ => decode_readRaw, fun _ hq => takeCommand_respond hq fun u => .one (u.memRead .clkCnt)⟩

/-! ## T6 -/

/-- R120's two assignments, with the test for a whole second as the remainder of R8. -/
theorem advanceClock_eq (s : State) : s.advanceClock = { s with
    ticks := s.ticks + 1
    secs := if (s.ticks + 1).toNat % s.cfg.hz = 0 then s.secs + 1 else s.secs } := by
  simp only [State.advanceClock, onSecond_iff]

theorem exec_t6_of_seq (h : s.seq = .t6) : exec .t6 s = .next (s.advanceClock.goto (.scan 0)) := by
  simp [exec, execT6, takeInternal_enabled, h]

/-- Settles O34: both counters are written by one update, and the sequencer is the only other field. -/
theorem tickStepT6 : Obligations.TickStepT6 := by
  intro s hq
  rw [exec_t6_of_seq hq, advanceClock_eq]
  rfl

end Sys2Proof.Machine
end

section
/-!
PROOFS. Runs of any turns: what every step keeps holds at the end of a run, and the time counters count the T6 steps of a run
from reset (O50).
-/

namespace Sys2Proof.Machine

open Sys2Proof

variable {s t : State}

/-- What every step keeps, a run keeps. -/
theorem run_keeps {P : State → Prop} (hstep : ∀ {u v}, P u → step u = .next v → P v) {k : Nat} (hs : P s)
    (h : Host.Core.run Sys2Proof.core k s = .next t) : P t := by
  induction k generalizing s with
  | zero =>
    obtain rfl := Host.Outcome.next.inj h
    exact hs
  | succ k ih =>
    obtain ⟨u, hu, hrest⟩ := run_succ_next h
    exact ih (hstep hs hu) hrest

/-- No step changes the configuration (log 1). -/
theorem step_cfg (h : step s = .next t) : t.cfg = s.cfg := by
  cases step_stepNext h with
  | selected i _ _ _ hx => exact exec_cfg (s := s.dropTurn) hx
  | performed tx _ _ _ hx => exact exec_cfg (s := s.dropTurn) hx
  | wasReset => rfl
  | blockIdle => rfl

theorem run_cfg {k : Nat} (h : Host.Core.run Sys2Proof.core k s = .next t) : t.cfg = s.cfg :=
  run_keeps (P := fun u => u.cfg = s.cfg) (fun hu hv => (step_cfg hv).trans hu) rfl h

/-- The count over a run is the count over its first step, then over the rest. -/
theorem t6SinceReset_succ_of_step (k n : Nat) (h : step s = .next t) :
    t6SinceReset (k + 1) s n = t6SinceReset k t (countT6 s n) := by
  simp only [t6SinceReset, h]

/-- A run brings the count up to date, one step after another (R125). -/
theorem State.CountsT6.run {k n : Nat} (hs : s.CountsT6 n) (h : Host.Core.run Sys2Proof.core k s = .next t) :
    t.CountsT6 (t6SinceReset k s n) := by
  induction k generalizing s n with
  | zero =>
    obtain rfl := Host.Outcome.next.inj h
    exact hs
  | succ k ih =>
    obtain ⟨u, hu, hrest⟩ := run_succ_next h
    rw [t6SinceReset_succ_of_step k n hu]
    exact ih (hs.step hu) hrest

/-- Settles O50: reset counts 0, the run keeps the count, and HZ is the same at its end as at reset. -/
theorem ticksAndSecondsCountTickSequences : Obligations.TicksAndSecondsCountTickSequences := by
  intro c d ts k t h n
  have hreset : State.CountsT6 { State.resetOf c d with sched := ts } 0 := .zero rfl rfl
  have hcount : t.CountsT6 n := hreset.run h
  have hcfg : t.cfg = c := run_cfg h
  exact ⟨hcount.ticks_eq, fun hn => hcfg ▸ hcount.secs_eq hn⟩

end Sys2Proof.Machine
end

section
/-!
PROOFS. The kernel-timer table: what REGISTER and CANCEL do in an accepting state (O20, O21), which handle REGISTER answers
(O52), and the table filled by REGISTERs back to back (O53).
-/

namespace Sys2Proof.Machine

open Sys2Proof

variable {s t : State}

/-! ## The first-free search -/

/-- A full table has no free slot to find (R141); the converse of `firstFree_none`. -/
theorem firstFree_of_full (hfull : ∀ i < s.slots.length, (s.slotAt i).handler ≠ 0) : s.firstFree = none := by
  cases hf : s.firstFree with
  | none => rfl
  | some j =>
    obtain ⟨hj, hfree, -⟩ := firstFree_some hf
    exact absurd hfree (hfull j hj)

/-- The search finds the least free slot (R141); the converse of `firstFree_some`. -/
theorem firstFree_of_least {j : Nat} (hj : j < s.slots.length) (hfree : (s.slotAt j).handler = 0)
    (hbelow : ∀ i < j, (s.slotAt i).handler ≠ 0) : s.firstFree = some j := by
  cases hf : s.firstFree with
  | none => exact absurd hfree (firstFree_none hf j hj)
  | some i =>
    obtain ⟨-, hi, hbelow'⟩ := firstFree_some hf
    rcases lt_trichotomy i j with hij | rfl | hji
    · exact absurd hi (hbelow i hij)
    · rfl
    · exact absurd hfree (hbelow' j hji)

/-! ## REGISTER and CANCEL in an accepting state -/

section Accepting

variable (hq : s.seq = .idle ∨ ∃ i, s.seq = .cb i) {delayTicks : U32} {handler param context : Ref} {handle : U32}
include hq

/-- A null handler faults before the search, so whatever the table holds (R140, R205). -/
theorem exec_register_of_null :
    exec (.register delayTicks 0 param context) s = .next (s.beginCommand.raiseFault .nullHandler) := by
  rw [exec, execRegister, takeCommand_accepted ((accepts_iff s.seq).mpr hq), beq_self_eq_true, if_pos rfl]

/-- Past the handler test, REGISTER is `registerTimer` (R140). -/
theorem exec_register_of_handler (h0 : handler ≠ 0) : exec (.register delayTicks handler param context) s =
    .next (s.beginCommand.registerTimer delayTicks handler param context) := by
  rw [exec, execRegister, takeCommand_accepted ((accepts_iff s.seq).mpr hq), if_neg (mt beq_iff_eq.mp h0)]

theorem exec_register_of_full (h0 : handler ≠ 0) (hf : s.firstFree = none) :
    exec (.register delayTicks handler param context) s =
      .next ((s.beginCommand.emit (.log .panic .tableFull)).respond (.one 0)) := by
  have hf' : s.beginCommand.firstFree = none := hf
  rw [exec_register_of_handler hq h0, State.registerTimer, hf']

theorem exec_register_of_free {j : Nat} (h0 : handler ≠ 0) (hf : s.firstFree = some j) :
    exec (.register delayTicks handler param context) s = .next ((s.beginCommand.setSlot j
      { handler := handler, deadline := s.ticks + delayTicks, param := param, context := context }).respond
        (.one (handleOfSlot j))) := by
  have hf' : s.beginCommand.firstFree = some j := hf
  rw [exec_register_of_handler hq h0, State.registerTimer, hf']
  rfl

/-- CANCEL is decided by CheckHandle alone (R143, R144). -/
theorem exec_cancel_of_accepting : exec (.cancel handle) s =
    .next (if s.handleInRange handle then s.beginCommand.freeSlot (slotOfHandle handle)
      else s.beginCommand.raiseFault .badHandle) :=
  takeCommand_accepted (f := fun u => if u.handleInRange handle then u.freeSlot (slotOfHandle handle)
    else u.raiseFault .badHandle) ((accepts_iff s.seq).mpr hq)

end Accepting

/-- Settles O20: the handler test first, then the first-free search decides between the log and the slot it finds. -/
theorem registerFillsTheFirstFreeSlot : Obligations.RegisterFillsTheFirstFreeSlot := by
  refine ⟨fun _ => decode_register, fun s d handler p c hq hk => ?_⟩
  refine ⟨?_, fun h0 hfull => ?_, fun j h0 hj hfree hbelow => ?_⟩
  · rintro rfl
    exact exec_register_of_null hq
  · exact exec_register_of_full hq h0 (firstFree_of_full (hk ▸ hfull))
  · exact exec_register_of_free hq h0 (firstFree_of_least (hk ▸ hj) hfree hbelow)

/-- Settles O21: the handle's range is CheckHandle's. -/
theorem cancelFreesTheNamedSlot : Obligations.CancelFreesTheNamedSlot := by
  refine ⟨fun _ => decode_cancel, fun s handle hq => ?_⟩
  rw [exec_cancel_of_accepting hq]
  refine ⟨fun h1 hk => ?_, fun hout => ?_⟩
  · rw [if_pos ((handleInRange_iff s handle).mpr ⟨h1, hk⟩)]
    rfl
  · have hrange : ¬ (1 ≤ handle.toNat ∧ handle.toNat ≤ s.cfg.k) := by omega
    rw [if_neg (mt (handleInRange_iff s handle).mp hrange)]
    rfl

/-! ## The handle REGISTER answers -/

/-- K fits 32 bits (R6), so the handle of a slot of the table is its index plus one, unwrapped and never 0 (R25). -/
theorem State.Inv.handleOfSlot_toNat (hs : s.Inv) {j : Nat} (hj : j < s.slots.length) :
    (handleOfSlot j).toNat = j + 1 := by
  obtain ⟨-, -, -, -, -, hk, -⟩ := (admitted_iff s.cfg).mp hs.admitted
  rw [hs.slots_length] at hj
  exact Nat.mod_eq_of_lt (by omega)

/-- Settles O52: of REGISTER's four ways only the filled slot answers a handle other than 0, and that handle names the slot
the search found. -/
theorem registerNeverAnswersALiveHandle : Obligations.RegisterNeverAnswersALiveHandle := by
  intro s t d handler p c handle hs hq h0 h hrsp hhandle
  rcases execRegister_next h with ⟨-, hnull, -⟩ | ⟨-, -, -, rfl⟩ | ⟨-, -, j, hj, rfl⟩ | ⟨hheld, -⟩
  · exact absurd hnull h0
  · exact absurd (Response.one.inj hrsp).symm hhandle
  · obtain rfl : handleOfSlot j = handle := Response.one.inj hrsp
    obtain ⟨hlt, hfree, -⟩ := firstFree_some hj
    have hslot := slotAt_setSlot s j (slot := { handler := handler, deadline := s.ticks + d, param := p, context := c })
    rw [hs.handleOfSlot_toNat hlt, Nat.add_sub_cancel]
    refine ⟨Nat.succ_pos j, hs.slots_length ▸ hlt, hfree, (hslot j).trans (if_pos ⟨rfl, hlt⟩), fun i hi => ?_⟩
    exact (hslot i).trans (if_neg fun hc => hi hc.1.symm)
  · rw [(accepts_iff s.seq).mpr hq] at hheld
    cases hheld

/-! ## REGISTERs back to back -/

/-- REGISTER with a request's delay, handler, param and context. -/
def registerOf (r : U32 × Ref × Ref × Ref) : Instr := .register r.1 r.2.1 r.2.2.1 r.2.2.2

/-- The slot that a request made at `ticks` fills (R140). -/
def timerOf (ticks : U32) (r : U32 × Ref × Ref × Ref) : Slot :=
  { handler := r.2.1, deadline := ticks + r.1, param := r.2.2.1, context := r.2.2.2 }

theorem performAll_cons {i : Instr} {is : List Instr} {u : State} {rs : List Response} (hi : exec i s = .next t)
    (his : performAll is t = some (u, rs)) : performAll (i :: is) s = some (u, t.rsp :: rs) := by
  simp only [performAll, hi, his, Option.map_some]

theorem performAll_append {is js : List Instr} {u : State} {rs qs : List Response}
    (his : performAll is s = some (t, rs)) (hjs : performAll js t = some (u, qs)) :
    performAll (is ++ js) s = some (u, rs ++ qs) := by
  induction is generalizing s rs with
  | nil =>
    cases his
    exact hjs
  | cons i is ih =>
    obtain ⟨v, hv⟩ := exec_answers i s
    simp only [performAll, hv, Option.map_eq_some_iff] at his
    obtain ⟨⟨t', rs'⟩, hrest, heq⟩ := his
    cases heq
    exact performAll_cons hv (ih hrest)

/-- Where the occupied slots all come first, the search finds the slot after them (R141). -/
theorem firstFree_of_append {filled free : List Slot} {slot : Slot} (hs : s.slots = filled ++ slot :: free)
    (hfilled : ∀ x ∈ filled, x.handler ≠ 0) (hfree : slot.handler = 0) : s.firstFree = some filled.length := by
  refine firstFree_of_least (by simp [hs]) (by simp [State.slotAt, hs, hfree]) fun i hi => ?_
  have hget : s.slotAt i = filled[i] := by simp [State.slotAt, hs, List.getElem?_append_left hi, hi]
  rw [hget]
  exact hfilled _ (List.getElem_mem hi)

/-- One REGISTER moves the border between the occupied slots and the free ones by one. -/
theorem exec_registerOf_of_append (hq : s.seq = .idle ∨ ∃ i, s.seq = .cb i) {r : U32 × Ref × Ref × Ref}
    (hr : r.2.1 ≠ 0) {filled free : List Slot} {slot : Slot} (hs : s.slots = filled ++ slot :: free)
    (hfilled : ∀ x ∈ filled, x.handler ≠ 0) (hfree : slot.handler = 0) :
    ∃ t, exec (registerOf r) s = .next t ∧ t.rsp = .one (handleOfSlot filled.length) ∧
      t.slots = (filled ++ [timerOf s.ticks r]) ++ free ∧ t.events = s.events ∧ t.seq = s.seq ∧ t.ticks = s.ticks := by
  refine ⟨_, exec_register_of_free hq hr (firstFree_of_append hs hfilled hfree), rfl, ?_, rfl, rfl, rfl⟩
  simp [hs, timerOf]

/-- As many REGISTERs as there are free slots, all of them behind the occupied ones, fill these in order (R141). -/
theorem performAll_registers_fill {reqs : List (U32 × Ref × Ref × Ref)} (hreqs : ∀ r ∈ reqs, r.2.1 ≠ 0)
    {filled free : List Slot} (hlen : reqs.length = free.length) (hq : s.seq = .idle ∨ ∃ i, s.seq = .cb i)
    (hs : s.slots = filled ++ free) (hfilled : ∀ x ∈ filled, x.handler ≠ 0) (hfree : ∀ x ∈ free, x.handler = 0) :
    ∃ t, performAll (reqs.map registerOf) s =
        some (t, (List.range' filled.length reqs.length).map fun j => .one (handleOfSlot j)) ∧
      t.slots = filled ++ reqs.map (timerOf s.ticks) ∧ t.events = s.events ∧ t.seq = s.seq ∧ t.ticks = s.ticks := by
  induction reqs generalizing s filled free with
  | nil =>
    obtain rfl := List.length_eq_zero_iff.mp hlen.symm
    exact ⟨s, rfl, hs, rfl, rfl, rfl⟩
  | cons r reqs ih =>
    obtain ⟨slot, free, rfl⟩ := List.exists_cons_of_length_eq_add_one hlen.symm
    obtain ⟨hr, hreqs⟩ := List.forall_mem_cons.mp hreqs
    obtain ⟨hslot, hfree⟩ := List.forall_mem_cons.mp hfree
    obtain ⟨u, hu, hursp, huslots, huevents, huseq, huticks⟩ := exec_registerOf_of_append hq hr hs hfilled hslot
    have hfilled' : ∀ x ∈ filled ++ [timerOf s.ticks r], x.handler ≠ 0 :=
      List.forall_mem_append.mpr ⟨hfilled, List.forall_mem_singleton.mpr hr⟩
    obtain ⟨t, ht, htslots, htevents, htseq, htticks⟩ :=
      ih hreqs (Nat.succ.inj hlen) (huseq ▸ hq) huslots hfilled' hfree
    refine ⟨t, ?_, ?_, htevents.trans huevents, htseq.trans huseq, htticks.trans huticks⟩
    · simpa [hursp, List.range'_succ] using performAll_cons hu ht
    · simpa [huticks] using htslots

theorem handler_eq_zero_of_mem (hfree : ∀ i, (s.slotAt i).handler = 0) : ∀ x ∈ s.slots, x.handler = 0 := by
  intro x hx
  obtain ⟨i, hi, rfl⟩ := List.getElem_of_mem hx
  rw [← slotAt_eq_getElem s i hi]
  exact hfree i

/-- Settles O53: K REGISTERs fill the empty table in order, and the table of their timers is full for the one after. -/
theorem tableTakesKTimersAndNoMore : Obligations.TableTakesKTimersAndNoMore := by
  intro s reqs d handler p c hs hq hempty hlen hreqs h0
  obtain ⟨t, ht, htslots, htevents, htseq, htticks⟩ := performAll_registers_fill (filled := []) hreqs
    (hlen.trans hs.slots_length.symm) hq rfl nofun (handler_eq_zero_of_mem hempty)
  rw [List.nil_append] at htslots
  have hfull : t.firstFree = none := by
    refine firstFree_of_full fun i hi => ?_
    have hmem : t.slotAt i ∈ reqs.map (timerOf s.ticks) := by
      rw [slotAt_eq_getElem t i hi, ← htslots]
      exact List.getElem_mem hi
    obtain ⟨r, hr, hslot⟩ := List.mem_map.mp hmem
    exact hslot ▸ hreqs r hr
  have hlast := exec_register_of_full (delayTicks := d) (param := p) (context := c) (htseq ▸ hq) h0 hfull
  rw [← hlen, List.range_eq_range']
  exact ⟨_, performAll_append ht (performAll_cons hlast rfl), htslots, by simp [htevents], htseq, htticks⟩

end Sys2Proof.Machine
end

section
/-!
PROOFS. The poll scanner: when a deadline is reached (O51), CALLBACK_DONE (O26), the scan's two steps (O35, O36), and the whole
scan in which the HOST answers each FIRE at once (O54).
-/

namespace Sys2Proof.Machine

open Sys2Proof

variable {s t : State}

/-! ## The comparator over the ticks after a registration -/

/-- A signed difference is at most 0 where the unsigned one is 0 or in the upper half (R4). -/
theorem toInt_sub_nonpos_iff (a b : U32) : (a - b).toInt ≤ 0 ↔ (a - b).toNat = 0 ∨ 2 ^ 31 ≤ (a - b).toNat := by
  rw [BitVec.toInt_eq_toNat_cond]
  omega

/-- A timer set at `tick` with `delay`, asked at `tick + x`: the tick of registration cancels, wrapped or not (R161, R166). -/
theorem due_add_iff {slot : Slot} {tick delay : U32} (h0 : slot.handler ≠ 0) (hd : slot.deadline = tick + delay) (x : U32) :
    slot.due (tick + x) = true ↔ (delay - x).toNat = 0 ∨ 2 ^ 31 ≤ (delay - x).toNat := by
  rw [due_iff, hd, add_sub_add_left_eq_sub, toInt_sub_nonpos_iff, and_iff_right h0]

/-- Settles O51: after n ticks the distance left is D - n modulo 2^32, which is 0 or in the upper half first at n = max(D, 1),
and at once where D itself is past 2^31. -/
theorem timerFirstDueAtItsDelay : Obligations.TimerFirstDueAtItsDelay := by
  intro slot tick delay h0 hd
  have hlt := delay.isLt
  refine ⟨fun hle => ⟨?_, fun n h1 hn => ?_⟩, fun hge => ?_⟩
  · rw [due_add_iff h0 hd, BitVec.toNat_sub, BitVec.toNat_ofNat]
    omega
  · rw [← Bool.not_eq_true, due_add_iff h0 hd, BitVec.toNat_sub, BitVec.toNat_ofNat]
    omega
  · refine (due_add_iff h0 hd 1#32).mpr ?_
    rw [BitVec.toNat_sub, BitVec.toNat_ofNat]
    omega

/-! ## CALLBACK_DONE -/

/-- Word 8 is CALLBACK_DONE, whatever the operands (R82, R83). -/
theorem decode_callbackDone {tx : Transaction} (h : tx.cw = 8#32) : decode tx = .callbackDone := by
  obtain ⟨-, -, -, -, -, -, -, h8, -⟩ := everyWordIsLegalOrReserved tx
  exact h8 h

theorem exec_callbackDone_of_cb {i : Nat} (h : s.seq = .cb i) :
    exec .callbackDone s = .next (s.beginCommand.leaveCallback i) := by
  rw [exec, execCallbackDone, takeCommand_accepted ((accepts_iff s.seq).mpr (.inr ⟨i, h⟩)), State.beginCommand_seq, h]

theorem exec_callbackDone_of_idle (h : s.seq = .idle) :
    exec .callbackDone s = .next (s.beginCommand.raiseFault .badContext) := by
  rw [exec, execCallbackDone, takeCommand_accepted ((accepts_iff s.seq).mpr (.inl h)), State.beginCommand_seq, h]

/-- Settles O26: of the two accepting states only CB(i) has a callback to return from. -/
theorem callbackDoneResumesTheScan : Obligations.CallbackDoneResumesTheScan :=
  ⟨fun _ => decode_callbackDone, fun _ => ⟨fun _ => exec_callbackDone_of_cb, exec_callbackDone_of_idle⟩⟩

/-! ## The scan's steps -/

section Visit

variable {i : Nat} (hq : s.seq = .scan i) (hi : i < s.cfg.k)
include hq hi

theorem exec_scan_of_due (hd : s.dueNow i = true) : exec (.scan i) s = .next (s.fire i) := by
  simp [exec, execScan, takeInternal_enabled, hq, hi, hd]

theorem exec_scan_of_not_due (hd : s.dueNow i = false) : exec (.scan i) s = .next (s.goto (.scan (i + 1))) := by
  simp [exec, execScan, takeInternal_enabled, hq, hi, hd]

end Visit

theorem exec_scanK_of_seq (h : s.seq = .scan s.cfg.k) : exec .scanK s = .next s.leaveTick := by
  simp [exec, execScanK, takeInternal_enabled, h]

/-- Settles O35: the comparator decides between the two ways. -/
theorem scanVisitsOneSlot : Obligations.ScanVisitsOneSlot := by
  intro s i hq hi
  have hdue : s.dueNow i = true ↔ _ := due_iff (s.slotAt i) s.ticks
  refine ⟨fun h0 hle => exec_scan_of_due hq hi (hdue.mpr ⟨h0, hle⟩), fun hout => exec_scan_of_not_due hq hi ?_⟩
  rw [← Bool.not_eq_true, hdue]
  rintro ⟨h0, hle⟩
  exact hout.elim h0 (not_lt.mpr hle)

/-- Settles O36: the end of the scan restores nothing, so the sequencer is the only field written (R207). -/
theorem scanEndReturnsToIdle : Obligations.ScanEndReturnsToIdle := fun _ => exec_scanK_of_seq

/-! ## A chosen turn of the BLOCK -/

section ChosenTurn

variable {i : Instr} {ts : List Turn} (ha : s.cfg.admitted = true)
  (hx : exec i { s with sched := ts } = .next { t with sched := ts })
include ha hx

/-- A run whose first turn is the BLOCK's own performs the selected step, then the rest. -/
theorem runTurns_block (hi : s.internalStep = some i) : runTurns (.block :: ts) s = runTurns ts t :=
  runTurns_cons ha ((takeTurn_block_of_some (internalStep_sched.trans hi)).trans hx)

/-- A run whose first turn is the command turn performs what the port holds, then the rest. -/
theorem runTurns_command {tx : Transaction} (hp : s.port = some tx) (hi : decode tx = i) :
    runTurns (.command :: ts) s = runTurns ts t :=
  runTurns_cons ha ((takeTurn_command_of_port (s := { s with sched := ts }) hp).trans (hi ▸ hx))

end ChosenTurn

/-! ## One visit, with its callback answered at once -/

/-- The turns of the visit to slot i: `scanTurns` is these, slot after slot (R164, R243). -/
def State.visitTurns (s : State) (i : Nat) : List Turn :=
  if s.dueNow i then [.block, .present (bareCommand 0x00000008#32), .command] else [.block]

/-- The state after those turns: the slot fired and its callback returned, or the slot passed by. -/
def State.visitSlot (s : State) (i : Nat) : State :=
  if s.dueNow i then (s.fire i).beginCommand.leaveCallback i else s.goto (.scan (i + 1))

/-- What the visit leaves in a slot: a due one freed with its other fields kept, any other untouched (R37, R162). -/
def Slot.afterVisit (ticks : U32) (slot : Slot) : Slot := if slot.due ticks then { slot with handler := 0 } else slot

/-- The HOST answers a callback at once: it presents CALLBACK_DONE, and the block performs it (R164, R243). -/
theorem runTurns_answerCallback {i : Nat} (ha : s.cfg.admitted = true) (hq : s.seq = .cb i) (hp : s.port = none)
    (ts : List Turn) : runTurns (.present (bareCommand 0x00000008#32) :: .command :: ts) s =
      runTurns ts (s.beginCommand.leaveCallback i) := by
  have hpresent : runTurns (.present (bareCommand 0x00000008#32) :: .command :: ts) s =
      runTurns (.command :: ts) (s.hostPresents (bareCommand 0x00000008#32)) := runTurns_cons ha rfl
  have hport : (s.hostPresents (bareCommand 0x00000008#32)).port =
      some ((bareCommand 0x00000008#32).onWires s.cfg.refW) := by simp [hp]
  rw [hpresent]
  exact runTurns_command ha
    (exec_callbackDone_of_cb (s := { s.hostPresents (bareCommand 0x00000008#32) with sched := ts }) hq) hport
    (decode_callbackDone rfl)

/-- The turns of one visit take the state of SCAN(i) to that of SCAN(i + 1) (R160). -/
theorem runTurns_visitTurns {i : Nat} (ha : s.cfg.admitted = true) (hq : s.seq = .scan i) (hi : i < s.cfg.k)
    (hp : s.port = none) (ts : List Turn) : runTurns (s.visitTurns i ++ ts) s = runTurns ts (s.visitSlot i) := by
  unfold State.visitTurns State.visitSlot
  split
  · next hd =>
    have hfire (rest : List Turn) : runTurns (.block :: rest) s = runTurns rest (s.fire i) :=
      runTurns_block ha (exec_scan_of_due (s := { s with sched := rest }) hq hi hd) (internalStep_of_scan hq hi)
    exact (hfire _).trans (runTurns_answerCallback (s := s.fire i) ha rfl hp ts)
  · next hd =>
    exact runTurns_block ha (exec_scan_of_not_due (s := { s with sched := ts }) hq hi (Bool.not_eq_true _ ▸ hd))
      (internalStep_of_scan hq hi)

theorem slotAt_visitSlot_of_ne {i j : Nat} (h : i ≠ j) : (s.visitSlot i).slotAt j = s.slotAt j := by
  unfold State.visitSlot
  split
  · exact (slotAt_freeSlot s i j).trans (if_neg h)
  · rfl

/-- All that a visit writes when nothing is at the port: the slot, at most one FIRE, the sequencer and the response. -/
theorem visitSlot_eq (hp : s.port = none) {visited rest : List Slot} {slot : Slot}
    (hs : s.slots = visited ++ slot :: rest) : ∃ rsp, s.visitSlot visited.length = { s with
      slots := visited ++ slot.afterVisit s.ticks :: rest
      events := s.events ++ fireEvents s visited.length 1
      seq := .scan (visited.length + 1)
      port := none
      rsp := rsp } := by
  have hslot : s.slotAt visited.length = slot := by simp [State.slotAt, hs]
  cases hd : s.dueNow visited.length
  · have hdue : slot.due s.ticks = false := hslot ▸ hd
    exact ⟨s.rsp, by simp [State.visitSlot, State.goto, fireEvents, Slot.afterVisit, hd, hdue, hp, hs]⟩
  · have hdue : slot.due s.ticks = true := hslot ▸ hd
    exact ⟨.undriven, by simp [State.visitSlot, State.fire, State.beginCommand, State.leaveCallback, State.goto,
      fireEvents, Slot.afterVisit, hd, hdue, hslot, hp, hs]⟩

/-! ## The whole scan -/

/-- The turns of the rest of a scan depend on ticks and on the slots not yet visited alone. -/
theorem scanTurns_congr {i : Nat} (h : ∀ j, i ≤ j → t.slotAt j = s.slotAt j) (ht : t.ticks = s.ticks)
    (n : Nat) : scanTurns t i n = scanTurns s i n := by
  induction n generalizing i with
  | zero => rfl
  | succ n ih =>
    rw [scanTurns, scanTurns, State.dueNow, State.dueNow, ht, h i le_rfl, ih fun j hj => h j (Nat.le_of_succ_le hj)]

/-- The FIREs of the rest of a scan depend on ticks and on the slots not yet visited alone. -/
theorem fireEvents_congr {i : Nat} (h : ∀ j, i ≤ j → t.slotAt j = s.slotAt j) (ht : t.ticks = s.ticks)
    (n : Nat) : fireEvents t i n = fireEvents s i n := by
  induction n generalizing i with
  | zero => rfl
  | succ n ih =>
    rw [fireEvents, fireEvents, State.dueNow, State.dueNow, ht, h i le_rfl, ih fun j hj => h j (Nat.le_of_succ_le hj)]

theorem fireEvents_succ (s : State) (i n : Nat) : fireEvents s i (n + 1) = fireEvents s i 1 ++ fireEvents s (i + 1) n := by
  simp [fireEvents]

/-- The rest of a scan, from the first slot not yet visited: by the visits to come, slot after slot, and SCAN(K). -/
theorem runTurns_scanTurns {visited rest : List Slot} (ha : s.cfg.admitted = true) (hp : s.port = none)
    (hq : s.seq = .scan visited.length) (hs : s.slots = visited ++ rest) (hk : visited.length + rest.length = s.cfg.k) :
    ∃ rsp, runTurns (scanTurns s visited.length rest.length) s = .next { s with
      slots := visited ++ rest.map (Slot.afterVisit s.ticks)
      events := s.events ++ fireEvents s visited.length rest.length
      seq := .idle
      port := none
      rsp := rsp
      sched := [] } := by
  induction rest generalizing s visited with
  | nil =>
    have hend : s.seq = .scan s.cfg.k := hk ▸ hq
    have hrun : runTurns [.block] s = runTurns [] s.leaveTick :=
      runTurns_block ha (exec_scanK_of_seq (s := { s with sched := [] }) hend) (internalStep_of_scan_end hend)
    exact ⟨s.rsp, hrun.trans (by simp [runTurns_nil, State.leaveTick, State.goto, fireEvents, hs, hp])⟩
  | cons slot rest ih =>
    have hi : visited.length < s.cfg.k := by
      rw [List.length_cons] at hk
      omega
    have hahead : ∀ j, visited.length + 1 ≤ j → (s.visitSlot visited.length).slotAt j = s.slotAt j :=
      fun j hj => slotAt_visitSlot_of_ne (Nat.ne_of_lt hj)
    obtain ⟨rsp, hu⟩ := visitSlot_eq hp hs
    have hticks : (s.visitSlot visited.length).ticks = s.ticks := by rw [hu]
    have hevents := fireEvents_congr hahead hticks rest.length
    have hvisit : runTurns (scanTurns s visited.length (rest.length + 1)) s =
        runTurns (scanTurns (s.visitSlot visited.length) (visited.length + 1) rest.length)
          (s.visitSlot visited.length) := by
      rw [scanTurns_congr hahead hticks]
      exact runTurns_visitTurns ha hq hi hp _
    obtain ⟨rsp', hrest⟩ := ih (s := s.visitSlot visited.length) (visited := visited ++ [slot.afterVisit s.ticks])
      (by rw [hu]; exact ha) (by rw [hu]) (by simp [hu]) (by simp [hu]) (by simp [hu, ← hk]; omega)
    rw [List.length_append, List.length_singleton, hevents] at hrest
    refine ⟨rsp', hvisit.trans (hrest.trans ?_)⟩
    simp [hu, fireEvents_succ s _ rest.length]

/-- Settles O54: the whole table is still to be visited at SCAN(0). -/
theorem scanFiresDueSlotsInOrderAndEnds : Obligations.ScanFiresDueSlotsInOrderAndEnds := by
  intro s hs hq hp
  obtain ⟨rsp, hrun⟩ := runTurns_scanTurns (visited := []) hs.admitted hp hq rfl
    ((Nat.zero_add _).trans hs.slots_length)
  rw [hs.slots_length] at hrun
  exact ⟨_, hrun, rfl, rfl, rfl, rfl, rfl, rfl, rfl, rfl, rfl, rfl, rfl⟩

end Sys2Proof.Machine
end

section
/-!
PROOFS. Commands held and illegal words (O11, O27), and INIT's three steps where each is taken (O17 to O19).
-/

namespace Sys2Proof.Machine

open Sys2Proof

variable {s : State}

/-! ## Held commands -/

/-- Every command is taken by `takeCommand`, so outside the accepting states none changes anything (R35, R180). -/
theorem exec_command_held {i : Instr} (hi : isCommand i = true) (ha : s.seq.accepts = false) : exec i s = .next s := by
  cases i with
  | init | register | cancel | readTicks | readSeconds | readSnapshot | readRaw | callbackDone | reserved =>
    simp only [exec, execInit, execRegister, execCancel, execReadTicks, execReadSeconds, execReadSnapshot, execReadRaw,
      execCallbackDone, execReserved, takeCommand_held ha]
  | _ => cases hi

/-- A command turn outside the accepting states changes nothing, whatever stands at the port (R180). -/
theorem takeTurn_command_held (ha : s.seq.accepts = false) : takeTurn .command s = .next s := by
  cases hp : s.port with
  | none => simp only [takeTurn, hp]
  | some tx => exact (takeTurn_command_of_port hp).trans (exec_command_held (decode_isCommand tx) ha)

/-- Settles O11: using the turn up does not change the sequencer, so the command is still held there. -/
theorem commandOutsideAcceptingStatesIsHeld : Obligations.CommandOutsideAcceptingStatesIsHeld := by
  intro s rest hadm hs hidle hcb
  have ha : s.seq.accepts = false := by
    rw [← Bool.not_eq_true, accepts_iff]
    rintro (hq | ⟨i, hq⟩)
    · exact hidle hq
    · exact hcb i hq
  rw [step_of_sched hadm hs]
  exact takeTurn_command_held ha

/-! ## Commands that fault -/

/-- A fault raised by a command just taken from the port (R80, R200). -/
theorem beginCommand_raiseFault (s : State) (code : FaultCode) :
    s.beginCommand.raiseFault code = faultedCommand s code.bit code := rfl

/-- The fields of R81 out of R181's bounds make a word illegal. -/
theorem legalWord_of_bad_fields {cw : U32}
    (h : cw.extractLsb' 4 28 ≠ 0 ∨ cw.extractLsb' 0 4 = 0#4 ∨ 9 ≤ (cw.extractLsb' 0 4).toNat) : legalWord cw = false := by
  rw [← wordIsLegal_iff_legalWord, ← Bool.not_eq_true, wordIsLegal_iff]
  rintro ⟨hrsv, hzero, hnine⟩
  rcases h with h | h | h
  · exact h hrsv
  · exact hzero h
  · exact absurd hnine (not_lt.mpr h)

theorem exec_reserved_of_accepting (hq : s.seq = .idle ∨ ∃ i, s.seq = .cb i) (cw : U32) :
    exec (.reserved cw) s = .next (s.beginCommand.raiseFault .illegalCmd) :=
  takeCommand_accepted (f := fun u => u.raiseFault .illegalCmd) ((accepts_iff s.seq).mpr hq)

/-- Settles O27: an illegal word decodes to the reserved row, which does nothing but fault. -/
theorem illegalWordFaults : Obligations.IllegalWordFaults := by
  intro s tx hq hbad
  have hdecode : decode tx = .reserved tx.cw := decode_of_illegal (legalWord_of_bad_fields hbad)
  refine ⟨hdecode, ?_⟩
  rw [hdecode, exec_reserved_of_accepting hq, beginCommand_raiseFault, faultCode_bit]

/-! ## INIT's step I1 -/

/-- Word 1 is INIT, whatever the operands (R82, R83). -/
theorem decode_init {tx : Transaction} (h : tx.cw = 1#32) : decode tx = .init := by
  obtain ⟨h1, -⟩ := everyWordIsLegalOrReserved tx
  exact h1 h

/-- Before INITED is set, INIT in IDLE is the step I1 (R182). -/
theorem exec_init_of_idle (hq : s.seq = .idle) (hn : s.inited = false) :
    exec .init s = .next s.beginCommand.initI1 := by
  have ha : s.seq.accepts = true := (accepts_iff s.seq).mpr (.inl hq)
  simp [exec, execInit, takeCommand_accepted ha, hq, hn]

/-- In the other accepting contexts INIT is out of place (R182). -/
theorem exec_init_out_of_context (ha : s.seq.accepts = true) (hctx : s.seq ≠ .idle ∨ s.inited = true) :
    exec .init s = .next (s.beginCommand.raiseFault .badContext) := by
  rcases hctx with hq | hn
  · simp [exec, execInit, takeCommand_accepted ha, hq]
  · simp [exec, execInit, takeCommand_accepted ha, hn]

theorem initI1_of_accept (h : s.icAccept = true) : s.initI1 = (s.dropIcAnswer.latchCnt s.cnt).goto .i2 := by
  simp [State.initI1, h]

theorem initI1_of_refuse (h : s.icAccept = false) : s.initI1 = s.dropIcAnswer.raiseFault .irqRegister := by
  simp [State.initI1, h]

theorem icAccept_of_settled {a : Bool} (h : s.icAnswer = some a) : s.icAccept = a := by
  rw [State.icAccept, h, Option.getD_some]

theorem icAccept_of_unsettled (h : s.icAnswer = none) : s.icAccept = Config.freeIcAccept s.fresh := by
  rw [State.icAccept, h, Option.getD_none]

/-- Settles O17: taking the command does not touch the IC's answer, which alone decides I1. -/
theorem initStepI1 : Obligations.InitStepI1 := by
  refine ⟨fun _ => decode_init, fun s => ⟨fun hq hn hacc => ?_, fun hq hn href => ?_, fun hq hn => ?_, fun i hq => ?_,
    fun _ => icAccept_of_settled, icAccept_of_unsettled⟩⟩
  · rw [exec_init_of_idle hq hn, initI1_of_accept (s := s.beginCommand) hacc]
    rfl
  · rw [exec_init_of_idle hq hn, initI1_of_refuse (s := s.beginCommand) href]
    rfl
  · rw [exec_init_out_of_context ((accepts_iff s.seq).mpr (.inl hq)) (.inr hn), beginCommand_raiseFault, faultCode_bit]
  · rw [exec_init_out_of_context ((accepts_iff s.seq).mpr (.inr ⟨i, hq⟩)) (.inl (by simp [hq])), beginCommand_raiseFault,
      faultCode_bit]

/-! ## INIT's steps I2 and I3 -/

theorem exec_i2_of_seq (h : s.seq = .i2) : exec .i2 s = .next ((s.memWriteCmp (s.cntLatch + s.tpi)).goto .i3) := by
  simp [exec, execI2, takeInternal_enabled, h]

theorem exec_i3_of_seq (h : s.seq = .i3) :
    exec .i3 s = .next ((if s.cfg.initAck then s.ackStatus else s).enable.goto .idle) := by
  simp [exec, execI3, takeInternal_enabled, h]

/-- Settles O18: MemWrite is what touches M, and only under MATCH_ON_WRITE. -/
theorem initStepI2 : Obligations.InitStepI2 := fun _ => exec_i2_of_seq

/-- Settles O19: INIT_ACK decides whether M is acknowledged, and nothing else. -/
theorem initStepI3 : Obligations.InitStepI3 := by
  intro s hq
  rw [exec_i3_of_seq hq]
  cases s.cfg.initAck <;> rfl

end Sys2Proof.Machine
end

section
/-!
PROOFS. From I2 to the first match: while the counter is short of the first deadline no tick sequence starts (O58).
-/

namespace Sys2Proof.Machine

open Sys2Proof

variable {s t : State} {deadline : U32}

/-! ## The phases before the first tick sequence -/

/-- Where the block can be between I1 and the first match at `deadline`: INIT's steps, waiting in IDLE with the compare at
the deadline and no match pending, or halted by a fault. -/
inductive State.AwaitsMatch (deadline : U32) (s : State) : Prop
  | i2 : s.seq = .i2 → s.cntLatch + s.tpi = deadline → s.AwaitsMatch deadline
  | i3 : s.seq = .i3 → s.cmp = deadline → s.AwaitsMatch deadline
  | idle : s.seq = .idle → s.inited = true → s.cmp = deadline → s.m = false → s.AwaitsMatch deadline
  | halted : s.seq = .halted → s.AwaitsMatch deadline

namespace State.AwaitsMatch

theorem inTick_eq_false (hs : s.AwaitsMatch deadline) : s.seq.inTick = false := by
  cases hs with
  | i2 hq | i3 hq | idle hq | halted hq => rw [hq]; rfl

/-- A state outside a tick sequence is not at the start of one of its steps. -/
theorem seq_ne (hs : s.AwaitsMatch deadline) {q : Seq} (hq : q.inTick = true) : s.seq ≠ q := by
  rintro rfl
  exact absurd hs.inTick_eq_false (by rw [hq]; nofun)

theorem of_idle (hs : s.AwaitsMatch deadline) (hq : s.seq = .idle) : s.inited = true ∧ s.cmp = deadline ∧ s.m = false := by
  cases hs with
  | idle _ hinited hcmp hm => exact ⟨hinited, hcmp, hm⟩
  | i2 hq' | i3 hq' | halted hq' => exact nomatch hq.symm.trans hq'

theorem of_i2 (hs : s.AwaitsMatch deadline) (hq : s.seq = .i2) : s.cntLatch + s.tpi = deadline := by
  cases hs with
  | i2 _ hlatch => exact hlatch
  | i3 hq' | idle hq' | halted hq' => exact nomatch hq.symm.trans hq'

theorem of_i3 (hs : s.AwaitsMatch deadline) (hq : s.seq = .i3) : s.cmp = deadline := by
  cases hs with
  | i3 _ hcmp => exact hcmp
  | i2 hq' | idle hq' | halted hq' => exact nomatch hq.symm.trans hq'

/-- The fields the phases read. -/
def view (s : State) : Seq × U32 × U32 × U32 × Bool × Bool := (s.seq, s.cntLatch, s.tpi, s.cmp, s.inited, s.m)

theorem of_view_eq (hs : s.AwaitsMatch deadline) (h : view t = view s) : t.AwaitsMatch deadline := by
  obtain ⟨hseq, hlatch, htpi, hcmp, hinited, hm⟩ : t.seq = s.seq ∧ t.cntLatch = s.cntLatch ∧ t.tpi = s.tpi ∧
      t.cmp = s.cmp ∧ t.inited = s.inited ∧ t.m = s.m := by
    simpa only [view, Prod.mk.injEq] using h
  cases hs with
  | i2 hq h1 => exact .i2 (hseq.trans hq) (by rw [hlatch, htpi, h1])
  | i3 hq h1 => exact .i3 (hseq.trans hq) (hcmp.trans h1)
  | idle hq h1 h2 h3 => exact .idle (hseq.trans hq) (hinited.trans h1) (hcmp.trans h2) (hm.trans h3)
  | halted hq => exact .halted (hseq.trans hq)

/-- A count short of the deadline sets no match in IDLE (R32); a stale compare may match in INIT, before I3 clears M. -/
theorem clockAdvance (hs : s.AwaitsMatch deadline) (hne : s.cnt + 1 ≠ deadline) : s.clockAdvance.AwaitsMatch deadline := by
  cases hs with
  | i2 hq hlatch => exact .i2 hq hlatch
  | i3 hq hcmp => exact .i3 hq hcmp
  | idle hq hinited hcmp hm =>
    have hnomatch : s.clockAdvance.m = false := by
      rw [State.clockAdvance_m, hm, hcmp, beq_false_of_ne hne, Bool.or_false]
    exact .idle hq hinited hcmp hnomatch
  | halted hq => exact .halted hq

end State.AwaitsMatch

/-- Under INIT_ACK an instruction leads from phase to phase or faults: I3 clears M, so T1's entry finds no match, and INIT is
not taken again (R182 to R185). -/
theorem ExecNext.awaitsMatch {i : Instr} (h : ExecNext s i t) (hack : s.cfg.initAck = true)
    (hs : s.AwaitsMatch deadline) : t.AwaitsMatch deadline := by
  cases h with
  | same => exact hs
  | commandFault | initRefused | t1Spurious => exact .halted rfl
  | initAccepted hq hn =>
    obtain ⟨hinited, -⟩ := hs.of_idle hq
    exact absurd hinited (by rw [hn]; nofun)
  | tableFull | slotFilled | cancelled | readDone => exact hs.of_view_eq rfl
  | t1Entered he hm =>
    obtain ⟨hq, -⟩ := (t1Enabled_iff s).mp he
    obtain ⟨-, -, hnomatch⟩ := hs.of_idle hq
    exact absurd hm (by rw [hnomatch]; nofun)
  | i2 hq => exact .i3 rfl (hs.of_i2 hq)
  | i3Ack hq => exact .idle rfl rfl (hs.of_i3 hq) rfl
  | i3NoAck _ hnoack => exact absurd hack (by rw [hnoack]; nofun)
  | callbackReturned _ hq | t2 hq | t3 hq | t4Late hq | t4NotLate hq | t4b hq | t5 hq | t6 hq
  | slotFired _ hq | slotPassed _ hq | scanEnded hq => exact absurd hq (hs.seq_ne rfl)

/-! ## Turns and runs -/

theorem exec_cnt {i : Instr} (h : exec i s = .next t) : t.cnt = s.cnt := (exec_clockRegisters h).1

theorem exec_sched {i : Instr} (h : exec i s = .next t) : t.sched = s.sched := by
  cases exec_next h <;> rfl

/-- Outside the tick sequence no instruction writes ticks (R20, R120). -/
theorem exec_ticks_of_awaitsMatch {i : Instr} (hs : s.AwaitsMatch deadline) (h : exec i s = .next t) :
    t.ticks = s.ticks := by
  rcases exec_timeCounters h with ⟨-, hq, -⟩ | ⟨hticks, -⟩
  · exact absurd hq (hs.seq_ne rfl)
  · exact hticks

/-- A turn that is no reset, and is no count that reaches the deadline, keeps the block waiting and leaves ticks. -/
theorem takeTurn_awaitsMatch {u : Turn} (hack : s.cfg.initAck = true) (hs : s.AwaitsMatch deadline)
    (hr : turnIsReset u = false) (hne : u = .clock → s.cnt + 1 ≠ deadline) (h : takeTurn u s = .next t) :
    t.AwaitsMatch deadline ∧ t.ticks = s.ticks := by
  rcases takeTurn_next h with ⟨hu, rfl⟩ | ⟨-, i, -, hx⟩ | ⟨-, -, rfl⟩ | ⟨-, tx, -, hx⟩ | ⟨-, -, rfl⟩ | ⟨tx, -, rfl⟩ |
    ⟨a, -, rfl⟩ | ⟨d, rfl, -⟩
  · exact ⟨hs.clockAdvance (hne hu), rfl⟩
  · exact ⟨(exec_next hx).awaitsMatch hack hs, exec_ticks_of_awaitsMatch hs hx⟩
  · exact ⟨hs, rfl⟩
  · exact ⟨(exec_next hx).awaitsMatch hack hs, exec_ticks_of_awaitsMatch hs hx⟩
  · exact ⟨hs, rfl⟩
  · exact ⟨hs.of_view_eq rfl, rfl⟩
  · exact ⟨hs.of_view_eq rfl, rfl⟩
  · cases hr

/-- A turn uses up no other one, and only the CLOCK's counts (R32, R60). -/
theorem takeTurn_sched_cnt {u : Turn} (hr : turnIsReset u = false) (h : takeTurn u s = .next t) :
    t.sched = s.sched ∧ t.cnt = if turnIsClock u then s.cnt + 1 else s.cnt := by
  rcases takeTurn_next h with ⟨rfl, rfl⟩ | ⟨rfl, i, -, hx⟩ | ⟨rfl, -, rfl⟩ | ⟨rfl, tx, -, hx⟩ | ⟨rfl, -, rfl⟩ |
    ⟨tx, rfl, rfl⟩ | ⟨a, rfl, rfl⟩ | ⟨d, rfl, -⟩
  · exact ⟨rfl, rfl⟩
  · exact ⟨exec_sched hx, exec_cnt hx⟩
  · exact ⟨rfl, rfl⟩
  · exact ⟨exec_sched hx, exec_cnt hx⟩
  · exact ⟨rfl, rfl⟩
  · exact ⟨rfl, rfl⟩
  · exact ⟨rfl, rfl⟩
  · cases hr

/-- The CLOCK's turns still decided are too few for the counter to reach the deadline, and no turn is a reset. -/
structure State.ShortOf (deadline : U32) (s : State) : Prop where
  counts : (s.sched.filter turnIsClock).length < (deadline - s.cnt).toNat
  no_reset : ∀ u ∈ s.sched, turnIsReset u = false

namespace State.ShortOf

variable {u : Turn} {rest : List Turn}

/-- A count short of the deadline does not reach it. -/
theorem cnt_add_one_ne (hd : s.ShortOf deadline) (hu : s.sched = .clock :: rest) : s.cnt + 1 ≠ deadline := by
  rintro rfl
  simpa [hu, turnIsClock] using hd.counts

/-- The counter stays short of the deadline as a turn is used up: each count takes one CLOCK turn from those decided. -/
theorem tail (hd : s.ShortOf deadline) (hu : s.sched = u :: rest) (hsched : t.sched = rest)
    (hcnt : t.cnt = if turnIsClock u then s.cnt + 1 else s.cnt) : t.ShortOf deadline where
  counts := by
    have hcounts := hd.counts
    rw [hu] at hcounts
    rw [hsched]
    cases hc : turnIsClock u with
    | true =>
      rw [List.filter_cons_of_pos hc, List.length_cons] at hcounts
      rw [hcnt, if_pos hc]
      bv_omega
    | false =>
      rw [List.filter_cons_of_neg (by simp [hc])] at hcounts
      rwa [hcnt, hc]
  no_reset v hv := hd.no_reset v (by rw [hu]; exact List.mem_cons_of_mem u (hsched ▸ hv))

end State.ShortOf

/-- One decided turn: the counter stays short of the deadline, so the block waits on. -/
theorem step_awaitsMatch {u : Turn} {rest : List Turn} (hu : s.sched = u :: rest) (hack : s.cfg.initAck = true)
    (hs : s.AwaitsMatch deadline) (hd : s.ShortOf deadline) (h : step s = .next t) :
    t.AwaitsMatch deadline ∧ t.ShortOf deadline ∧ t.sched = rest ∧ t.ticks = s.ticks := by
  obtain ⟨hadm, -⟩ := step_next h
  rw [step_of_sched hadm hu] at h
  have hr : turnIsReset u = false := hd.no_reset u (by rw [hu]; exact List.mem_cons_self)
  have hne : u = .clock → s.cnt + 1 ≠ deadline := fun hc => hd.cnt_add_one_ne (hc ▸ hu)
  have hs' : State.AwaitsMatch deadline { s with sched := rest } := hs.of_view_eq rfl
  obtain ⟨hsched, hcnt⟩ := takeTurn_sched_cnt hr h
  obtain ⟨hwait, hticks⟩ := takeTurn_awaitsMatch (s := { s with sched := rest }) hack hs' hr hne h
  exact ⟨hwait, hd.tail hu hsched hcnt, hsched, hticks⟩

/-- A run within the decided turns ends with the block still waiting. -/
theorem run_awaitsMatch {k : Nat} (hk : k ≤ s.sched.length) (hack : s.cfg.initAck = true) (hs : s.AwaitsMatch deadline)
    (hd : s.ShortOf deadline) (h : Host.Core.run Sys2Proof.core k s = .next t) :
    t.AwaitsMatch deadline ∧ t.ticks = s.ticks := by
  induction k generalizing s with
  | zero =>
    obtain rfl := Host.Outcome.next.inj h
    exact ⟨hs, rfl⟩
  | succ k ih =>
    obtain ⟨v, hv, hrest⟩ := run_succ_next h
    obtain ⟨u, rest, hu⟩ := List.exists_cons_of_length_pos (Nat.lt_of_lt_of_le k.succ_pos hk)
    obtain ⟨hs', hd', hsched, hticks⟩ := step_awaitsMatch hu hack hs hd hv
    rw [hu, List.length_cons] at hk
    obtain ⟨ht, hticks'⟩ := ih (by rw [hsched]; omega) (step_cfg hv ▸ hack) hs' hd' hrest
    exact ⟨ht, hticks'.trans hticks⟩

/-- R6 keeps TPI within its 32-bit word. -/
theorem tpi_toNat (hc : s.cfg.admitted = true) : s.tpi.toNat = s.cfg.clockHz / s.cfg.hz := by
  obtain ⟨-, -, -, htpi, -⟩ := (admitted_iff s.cfg).mp hc
  exact Nat.mod_eq_of_lt (Nat.lt_of_le_of_lt htpi (by decide))

/-- Settles O58: the first deadline is TPI counts after the counter that I1 latched, and fewer counts do not reach it. That
I3 clears M is all it needs of the switches: a match on I2's write is cleared too, and a spurious entry halts. -/
theorem firstTickNotBeforeTpiCounts : Obligations.FirstTickNotBeforeTpiCounts := by
  intro s t ts k hinv hq hlatch hack _ _ hk hno hcounts h
  have hwait : State.AwaitsMatch (s.cnt + s.tpi) { s with sched := ts } := .i2 hq (congrArg (· + s.tpi) hlatch)
  have hshort : State.ShortOf (s.cnt + s.tpi) { s with sched := ts } :=
    ⟨by rwa [add_sub_cancel_left, tpi_toNat hinv.admitted], hno⟩
  obtain ⟨hend, hticks⟩ := run_awaitsMatch (s := { s with sched := ts }) hk hack hwait hshort h
  exact ⟨hend.inTick_eq_false, hticks⟩

end Sys2Proof.Machine
end

section
/-!
PROOFS. Every step answers (O15), the history of events that it leaves (O42), and what a halted block keeps (O46).
-/

namespace Sys2Proof.Machine

open Sys2Proof

variable {s t : State}

/-- Settles O15: R6's bounds are the one reason for which a step is refused. -/
theorem admittedMachineAlwaysSteps : Obligations.AdmittedMachineAlwaysSteps :=
  fun _ => step_answers_of_admitted

/-! ## The event history -/

/-- An instruction emits at most one event: its fault, the log of a full table, or FIRE (R204). -/
theorem exec_events {i : Instr} (h : exec i s = .next t) :
    t.events = s.events ∨ ∃ e, t.events = s.events ++ [e] := by
  cases exec_next h with
  | commandFault | initRefused | tableFull | t1Spurious | slotFired => exact .inr ⟨_, rfl⟩
  | _ => exact .inl rfl

/-- Only the BLOCK emits: every other turn, reset included, leaves the history (log 8). -/
theorem step_events (h : step s = .next t) : t.events = s.events ∨ ∃ e, t.events = s.events ++ [e] := by
  cases step_stepNext h with
  | selected i _ _ _ hx => exact exec_events (s := s.dropTurn) hx
  | performed tx _ _ _ hx => exact exec_events (s := s.dropTurn) hx
  | wasReset => exact .inl rfl
  | blockIdle => exact .inl rfl

/-- Settles O42. -/
theorem historyGrowsAndConfigurationStays : Obligations.HistoryGrowsAndConfigurationStays :=
  fun _ _ h => ⟨step_cfg h, step_events h⟩

/-! ## HALTED -/

/-- HALTED enables no internal step (R201). -/
theorem internalStep_of_halted (hq : s.seq = .halted) : s.internalStep = none := by
  simp only [State.internalStep, hq]

/-- HALTED accepts no command (R35). -/
theorem accepts_of_halted (hq : s.seq = .halted) : s.seq.accepts = false := by
  rw [hq]
  rfl

/-- What a turn can do to a halted block: the BLOCK does nothing in its own turn or in a command's, so what is left is the
CLOCK's advance, the HOST's presenting, and the IC's answer (R201). -/
theorem takeTurn_of_halted {u : Turn} (hq : s.seq = .halted) (hr : turnIsReset u = false)
    (h : takeTurn u s = .next t) :
    t = s ∨ t = s.clockAdvance ∨ (∃ tx, t = s.hostPresents tx) ∨ ∃ a, t = s.icSettles a := by
  cases u with
  | clock => exact .inr (.inl (Host.Outcome.next.inj h).symm)
  | block =>
    rw [takeTurn_block_of_none (internalStep_of_halted hq)] at h
    exact .inl (Host.Outcome.next.inj h).symm
  | command =>
    rw [takeTurn_command_held (accepts_of_halted hq)] at h
    exact .inl (Host.Outcome.next.inj h).symm
  | present tx => exact .inr (.inr (.inl ⟨tx, (Host.Outcome.next.inj h).symm⟩))
  | icAnswer a => exact .inr (.inr (.inr ⟨a, (Host.Outcome.next.inj h).symm⟩))
  | reset d => cases hr

/-- A transaction at the port is not displaced by another that the HOST presents (R180, R243). -/
theorem hostPresents_port_of_held {held : Transaction} (hp : s.port = some held) (tx : Transaction) :
    (s.hostPresents tx).port = some held := by
  rw [State.hostPresents_port, hp, Option.getD_some]

/-- Settles O46: the turns left to a halted machine write CNT, M, an empty port and the IC's answer, and nothing else. -/
theorem haltedIsLeftOnlyByReset : Obligations.HaltedIsLeftOnlyByReset := by
  intro s t hq hr h
  obtain ⟨-, hturn⟩ := step_next h
  rcases takeTurn_of_halted (s := s.dropTurn) hq hr hturn with rfl | rfl | ⟨tx, rfl⟩ | ⟨a, rfl⟩
  case inr.inr.inl =>
    exact ⟨hq, rfl, rfl, rfl, rfl, rfl, rfl, rfl, rfl, rfl, rfl, rfl,
      fun _ hp => hostPresents_port_of_held (s := s.dropTurn) hp tx⟩
  all_goals exact ⟨hq, rfl, rfl, rfl, rfl, rfl, rfl, rfl, rfl, rfl, rfl, rfl, fun _ => id⟩

end Sys2Proof.Machine
end

section
/-!
PROOFS. The tick sequence and an accepted INIT as runs of chosen turns, with no other agent between (O55, O56).
-/

namespace Sys2Proof.Machine

open Sys2Proof

variable {s : State} {ts : List Turn}

/-! ## The tick sequence -/

/-- The state that T2 to T4 make, but for the sequencer: the compare is programmed TPI on and the counter is latched
(R101 to R103). -/
def State.reprogrammed (s : State) : State :=
  { s with
    nextCmp := s.cmp + s.tpi
    cntLatch := s.cnt
    cmp := s.cmp + s.tpi
    m := s.m || (s.cfg.matchOnWrite && s.cmp + s.tpi == s.cnt) }

/-- T1 to T4 with a match pending: the deadline is reprogrammed, and the late test alone chooses where the sequence goes
on (R100 to R103). -/
theorem runTurns_t1_to_t4 (ha : s.cfg.admitted = true) (hq : s.seq = .idle) (hie : s.ie = true) (hm : s.m = true)
    {q : Seq} (hchoice : (if late s.cfg.drift (s.cmp + s.tpi) s.cnt = true then Seq.t4b else .t5) = q) :
    runTurns (.block :: .block :: .block :: .block :: ts) s = runTurns ts (s.reprogrammed.goto q) := by
  subst hchoice
  have ht1 : s.t1Enabled = true := (t1Enabled_iff s).mpr ⟨hq, hie, .inl hm⟩
  calc runTurns (.block :: .block :: .block :: .block :: ts) s
    _ = runTurns (.block :: .block :: .block :: ts) s.enterTick :=
      runTurns_block ha (exec_t1_of_match (s := { s with sched := _ }) ht1 hm) (internalStep_eq_t1_iff.mpr ht1)
    _ = runTurns (.block :: .block :: ts) ((s.latchNextCmp (s.cmp + s.tpi)).goto .t3) :=
      runTurns_block ha (exec_t2_of_seq rfl) rfl
    _ = runTurns (.block :: ts) (((s.latchNextCmp (s.cmp + s.tpi)).memWriteCmp (s.cmp + s.tpi)).goto .t4) :=
      runTurns_block ha (exec_t3_of_seq rfl) rfl
    _ = _ := runTurns_block ha (exec_t4_of_late_iff rfl Iff.rfl) rfl

/-- T4B programs the compare from the latched counter (R105). -/
theorem runTurns_t4b (ha : s.cfg.admitted = true) :
    runTurns (.block :: ts) (s.goto .t4b) = runTurns ts ((s.memWriteCmp (s.cntLatch + s.tpi)).goto .t5) :=
  runTurns_block ha (exec_t4b_of_seq rfl) rfl

/-- T5 and T6 clear M, whatever set it, and count the tick (R106, R120). -/
theorem runTurns_t5_t6 (ha : s.cfg.admitted = true) :
    runTurns [.block, .block] (s.goto .t5) = .next { s with
      ticks := s.ticks + 1
      secs := if (s.ticks + 1).toNat % s.cfg.hz = 0 then s.secs + 1 else s.secs
      m := false
      seq := .scan 0
      sched := [] } := by
  calc runTurns [.block, .block] (s.goto .t5)
    _ = runTurns [.block] (s.ackStatus.goto .t6) := runTurns_block ha (exec_t5_of_seq rfl) rfl
    _ = runTurns [] (s.ackStatus.advanceClock.goto (.scan 0)) := runTurns_block ha (exec_t6_of_seq rfl) rfl
    _ = _ := by rw [runTurns_nil, advanceClock_eq]; rfl

/-- Settles O55: both paths share T1 to T4 and T5 to T6, and T4B falls between them on the late one. -/
theorem tickSequenceTakesSixOrSevenSteps : Obligations.TickSequenceTakesSixOrSevenSteps := by
  intro s ha hq hie hm next secs
  refine ⟨fun hontime => ?_, fun hlate => ?_⟩
  · calc runTurns (List.replicate 6 .block) s
      _ = runTurns [.block, .block] (s.reprogrammed.goto .t5) :=
        runTurns_t1_to_t4 ha hq hie hm (if_neg (Bool.eq_false_iff.mp hontime))
      _ = _ := runTurns_t5_t6 (s := s.reprogrammed) ha
  · calc runTurns (List.replicate 7 .block) s
      _ = runTurns [.block, .block, .block] (s.reprogrammed.goto .t4b) :=
        runTurns_t1_to_t4 ha hq hie hm (if_pos hlate)
      _ = runTurns [.block, .block] ((s.reprogrammed.memWriteCmp (s.cnt + s.tpi)).goto .t5) :=
        runTurns_t4b (s := s.reprogrammed) ha
      _ = _ := runTurns_t5_t6 (s := s.reprogrammed.memWriteCmp (s.cnt + s.tpi)) ha

/-! ## INIT -/

/-- An answer that the IC has settled is used up without a free value (R183, log 7). -/
theorem dropIcAnswer_of_settled {a : Bool} (h : s.icAnswer = some a) : s.dropIcAnswer = { s with icAnswer := none } := by
  simp [State.dropIcAnswer, h]

/-- The state that I1 makes of an acceptance already settled, but for the sequencer (R180, R183). -/
def State.initAccepted (s : State) : State :=
  { s with port := none, rsp := .undriven, icAnswer := none, cntLatch := s.cnt }

/-- INIT with the acceptance settled is performed as I1 with its counter read (R182, R183). -/
theorem exec_init_of_settled_accept (hq : s.seq = .idle) (hn : s.inited = false) (hans : s.icAnswer = some true) :
    exec .init s = .next (s.initAccepted.goto .i2) := by
  have hbegin : s.beginCommand.icAnswer = some true := hans
  rw [exec_init_of_idle hq hn, initI1_of_accept (icAccept_of_settled hbegin), dropIcAnswer_of_settled hbegin]
  rfl

/-- I3 with INIT_ACK acknowledges before it enables (R185). -/
theorem exec_i3_of_initAck (hq : s.seq = .i3) (hack : s.cfg.initAck = true) :
    exec .i3 s = .next (s.ackStatus.enable.goto .idle) := by
  rw [exec_i3_of_seq hq, if_pos hack]

/-- I2 and I3 with INIT_ACK program the first deadline from the latched counter, clear M, whatever set it, and enable the
interrupt (R184, R185). -/
theorem runTurns_i2_i3 (ha : s.cfg.admitted = true) (hack : s.cfg.initAck = true) :
    runTurns [.block, .block] (s.goto .i2) = .next { s with
      cmp := s.cntLatch + s.tpi
      m := false
      ie := true
      inited := true
      seq := .idle
      sched := [] } := by
  calc runTurns [.block, .block] (s.goto .i2)
    _ = runTurns [.block] ((s.memWriteCmp (s.cntLatch + s.tpi)).goto .i3) := runTurns_block ha (exec_i2_of_seq rfl) rfl
    _ = runTurns [] ((s.memWriteCmp (s.cntLatch + s.tpi)).ackStatus.enable.goto .idle) :=
      runTurns_block ha (exec_i3_of_initAck rfl hack) rfl
    _ = _ := by simp [runTurns_nil]

/-- Settles O56: the command turn is I1, which leaves the two steps I2 and I3 to the BLOCK. -/
theorem initTakesThreeSteps : Obligations.InitTakesThreeSteps := by
  intro s tx ha hq hn hp hcw hans hack
  calc runTurns [.command, .block, .block] s
    _ = runTurns [.block, .block] (s.initAccepted.goto .i2) :=
      runTurns_command ha (exec_init_of_settled_accept (s := { s with sched := _ }) hq hn hans) hp (decode_init hcw)
    _ = _ := runTurns_i2_i3 (s := s.initAccepted) ha hack

end Sys2Proof.Machine
end

section
/-!
PROOFS. The order of agents as the model holds it (O10), the HOST's and the IC's turns (O12), a word placed on the port
(O16), and an instruction asked for out of turn (O37).
-/

namespace Sys2Proof.Machine

open Sys2Proof

variable {s t : State}

/-! ## Undecided turns -/

theorem nextTurn_of_sched_nil (hs : s.sched = []) : s.nextTurn = Config.freeTurn s.fresh := by
  rw [State.nextTurn, hs, List.headD_nil]

/-- A free turn leaves the schedule empty and counts the free value taken (log 2). -/
theorem dropTurn_of_sched_nil (hs : s.sched = []) : s.dropTurn = { s with sched := [], fresh := s.fresh + 1 } := by
  simp only [State.dropTurn, hs, List.tail_nil, List.isEmpty_nil, if_true]

/-- A step sees the schedule and the counter of free values only through the turn chosen and the state once it is chosen. -/
theorem step_congr (hcfg : s.cfg = t.cfg) (hturn : s.nextTurn = t.nextTurn) (hdrop : s.dropTurn = t.dropTurn) :
    step s = step t := by
  rw [step, step, hcfg, hturn, hdrop]

/-- Settles O10: the free value taken and the same value decided beforehand give the same turn and the same state to it. -/
theorem undecidedTurnIsTheFreeValue : Obligations.UndecidedTurnIsTheFreeValue := by
  intro s hs
  refine step_congr rfl ?_ ?_
  · rw [nextTurn_of_sched_nil hs, nextTurn_of_sched rfl]
  · rw [dropTurn_of_sched_nil hs, dropTurn_of_sched rfl]

/-! ## The HOST's and the IC's turns -/

theorem hostPresents_of_empty (hp : s.port = none) (tx : Transaction) :
    s.hostPresents tx = { s with port := some (tx.onWires s.cfg.refW) } := by
  rw [State.hostPresents, hp, Option.getD_none]

/-- While a transaction is presented the HOST presents no other (R180, R243). -/
theorem hostPresents_of_held {held : Transaction} (hp : s.port = some held) (tx : Transaction) :
    s.hostPresents tx = s := by
  rw [State.hostPresents, hp, Option.getD_some, ← hp]

/-- Settles O12: each turn is its agent's one act, and the port alone decides between the HOST's two cases. -/
theorem hostAndControllerTurns : Obligations.HostAndControllerTurns := by
  intro s rest ha
  refine ⟨fun tx hs hp => ?_, fun tx held hs hp => ?_, fun _ hs => step_of_sched ha hs⟩
  · calc step s
      _ = .next (State.hostPresents { s with sched := rest } tx) := step_of_sched ha hs
      _ = _ := congrArg _ (hostPresents_of_empty (s := { s with sched := rest }) hp tx)
  · calc step s
      _ = .next (State.hostPresents { s with sched := rest } tx) := step_of_sched ha hs
      _ = _ := congrArg _ (hostPresents_of_held (s := { s with sched := rest }) hp tx)

/-! ## A word placed on the port -/

/-- Settles O16: the placed command turn is decided first, and using it up restores the schedule. -/
theorem placedWordRunsNext : Obligations.PlacedWordRunsNext := by
  intro s nbits w ha
  have hsched : (s.withFetchWord nbits w).sched = .command :: s.sched := rfl
  have hadm : (s.withFetchWord nbits w).cfg.admitted = true := ha
  rw [step_of_sched hadm hsched]
  exact takeTurn_command_of_port rfl

/-! ## Instructions out of turn -/

/-- A step of the sequencer that changes the state is the one that the sequencer selects (R28). -/
theorem ExecNext.selected_of_ne {i : Instr} (h : ExecNext s i t) (hi : isCommand i = false) (hne : t ≠ s) :
    s.internalStep = some i := by
  obtain ⟨-, hi2, hi3, ht2, ht3, ht4, ht4b, ht5, ht6, hscan, hscanK, -⟩ := sequencerStateSelectsTheStep s
  cases h with
  | same => exact absurd rfl hne
  | commandFault _ _ _ _ _ hcmd =>
    rcases hcmd with rfl | ⟨_, _, _, rfl⟩ | ⟨_, rfl, -⟩ | ⟨rfl, -⟩ | ⟨_, rfl⟩ <;> cases hi
  | readDone _ _ _ hcmd => rcases hcmd with ⟨rfl, -⟩ | ⟨rfl, -⟩ | ⟨rfl, -⟩ | ⟨rfl, -⟩ <;> cases hi
  | initAccepted | initRefused | tableFull | slotFilled | cancelled | callbackReturned => cases hi
  | t1Entered he | t1Spurious he => exact internalStep_eq_t1_iff.mpr he
  | t2 hq => exact ht2 hq
  | t3 hq => exact ht3 hq
  | t4Late hq | t4NotLate hq => exact ht4 hq
  | t4b hq => exact ht4b hq
  | t5 hq => exact ht5 hq
  | t6 hq => exact ht6 hq
  | i2 hq => exact hi2 hq
  | i3Ack hq | i3NoAck hq => exact hi3 hq
  | slotFired j hq hj | slotPassed j hq hj => exact hscan j hq hj
  | scanEnded hq => exact hscanK hq

/-- A step of the sequencer that is not selected changes nothing (log 3). -/
theorem exec_internal_of_not_selected {i : Instr} (hi : isCommand i = false) (hsel : s.internalStep ≠ some i) :
    exec i s = .next s := by
  obtain ⟨t, ht⟩ := exec_answers i s
  have hsame : t = s := not_not.mp fun hne => hsel ((exec_next ht).selected_of_ne hi hne)
  rw [ht, hsame]

theorem Seq.not_accepts_of_ne {q : Seq} (hidle : q ≠ .idle) (hcb : ∀ i, q ≠ .cb i) : q.accepts = false := by
  rw [← Bool.not_eq_true, accepts_iff]
  exact not_or.mpr ⟨hidle, not_exists.mpr hcb⟩

/-- Settles O37: of the sequencer's steps only the selected one acts, and of the commands none outside R35's states. -/
theorem instructionOutOfTurnChangesNothing : Obligations.InstructionOutOfTurnChangesNothing := fun _ _ =>
  ⟨exec_internal_of_not_selected, fun hi hidle hcb => exec_command_held hi (Seq.not_accepts_of_ne hidle hcb)⟩

end Sys2Proof.Machine
end
